-- ==== Sys2Proof/Word.lean ====
section
/-!
DEFINITION. The widths of the part: bytes of the window and of the report link, and stamps of the
Stamp Clock (R9: 32 bits, wrapping).
-/

namespace Sys2Proof

/-- A byte of the window (R187) or of a link frame (R106). -/
abbrev Byte := BitVec 8

/-- A value of the Stamp Clock in milliseconds, modulo 2^32 (R9). -/
abbrev Stamp := BitVec 32

end Sys2Proof
end

