-- ==== Sys2Proof/Syntax.lean ====
section
/-!
DEFINITION. The part's commands and events: one constructor per row of spec/opcode_table.json.
The rows carry no bits. A window command's arguments lie in the ARG registers (R191, R192), a link
request's in the head of the link queue (R111), so most constructors carry nothing.
-/

namespace Sys2Proof

/-- Whether the Table Engine is free, or engaged with a request it took before, at the moment a
window command is taken (R14, R197). Log entry 2: the spec gives no duration of a request's work,
so the sender of the steps says which. DESIGN CHOICE, safe: both are allowed at every command. -/
inductive EngineAt where
  | free
  | engaged
deriving DecidableEq, Repr

/-- What holds the part in cold reset: RESETN driven low, or power-up (R186, R203). Log entry 7. -/
inductive ResetCause where
  | resetn
  | powerUp
deriving DecidableEq, Repr

/-- The two parts of the end of WARM-RESTART: the clear of the causes, which is taken on its own
(R195), and the completion. Log entry 14. -/
inductive RestartEnd where
  | clear
  | finish
deriving DecidableEq, Repr

/-- Where a data byte's step stands among the steps of its write transaction, the command that ends
it included: CSN has fallen before it where it is the only or the first one, and rises after it
where it is the only or the last one (R188). Log entry 17. -/
inductive Csn where
  | only
  | first
  | next
  | last
deriving DecidableEq, Repr

/-- A data byte of a write transaction: its value and its place. -/
structure DataByte where
  value : Byte
  csn   : Csn
deriving DecidableEq, Repr

/-- The steps of the part, one constructor per row of spec/opcode_table.json, in its order. -/
inductive Instr where
  /-- TOPO_BEGIN, command 0x10 (R57). -/
  | topoBegin
  /-- TOPO_PUT, command 0x11 (R58). -/
  | topoPut
  /-- TOPO_COMMIT, command 0x12 (R60). -/
  | topoCommit (engine : EngineAt)
  /-- COMMIT_COMPLETE, the end of the commit work (R64). -/
  | commitComplete
  /-- GROUP_SET, command 0x22 (R43). -/
  | groupSet
  /-- SET_LIMITS, command 0x23 (R99). -/
  | setLimits (engine : EngineAt)
  /-- SET_STAMP, command 0x24 (R201). -/
  | setStamp
  /-- SET_MODE, command 0x30 (R130). -/
  | setMode
  /-- GRANT, command 0x31 (R134). -/
  | grant
  /-- LOOKUP, command 0x40 (R156). -/
  | lookup (engine : EngineAt)
  /-- GET, command 0x41 (R161). -/
  | get (engine : EngineAt)
  /-- LIST_OPEN, command 0x42 (R163). -/
  | listOpen (engine : EngineAt)
  /-- LIST_NEXT, command 0x43 (R166). -/
  | listNext (engine : EngineAt)
  /-- LIST_CLOSE, command 0x44 (R168). -/
  | listClose (engine : EngineAt)
  /-- AGENT_INFO, command 0x45 (R170). -/
  | agentInfo
  /-- ACK, command 0x50 (R172). -/
  | ack (engine : EngineAt)
  /-- ACK_ALL, command 0x51 (R173). -/
  | ackAll (engine : EngineAt)
  /-- CLEAR_DOMAIN, command 0x52: checked and presented (R175). -/
  | clearDomain
  /-- SWEEP_START, the grant of CLEAR-DOMAIN (R176). -/
  | sweepStart
  /-- SWEEP_STEP, one step of eight indices (R177). -/
  | sweepStep
  /-- CLEAR_SUMMARY, command 0x53 (R180). -/
  | clearSummary
  /-- RAISE_APP, command 0x54 (R181). -/
  | raiseApp (engine : EngineAt)
  /-- RESTORE_APP, command 0x55 (R182). -/
  | restoreApp (engine : EngineAt)
  /-- WARM_RESTART, command 0x60 (R184). -/
  | warmRestart (engine : EngineAt)
  /-- WARM_RESTART_COMPLETE, the end of WARM-RESTART (R185). -/
  | warmRestartComplete (part : RestartEnd)
  /-- BAD_COMMAND, a CMD write of an undefined code (R196). -/
  | badCommand (code : Byte)
  /-- OVERRUN, a CMD write while BUSY (R193). -/
  | overrun
  /-- ATTN_CAUSE_WRITE, a byte written to address 0x03 (R151). -/
  | attnCauseWrite (value : DataByte)
  /-- ATTN_ENABLE_WRITE, a byte written to address 0x04 (R152). -/
  | attnEnableWrite (value : DataByte)
  /-- ARG_WRITE, a byte written to an ARG register or to an address with no behaviour of its own
  (R191). -/
  | argWrite (address : BitVec 7) (value : DataByte)
  /-- STAMP_LATCH, a read of address 0x0C (R190). -/
  | stampLatch
  /-- COLD_RESET, RESETN low or power-up (R186). -/
  | coldReset (cause : ResetCause)
  /-- RESET_RELEASE, RESETN has risen and power-up has ended (R186). -/
  | resetRelease
  /-- STAMP_TICK, one millisecond of the Stamp Clock (R9). -/
  | stampTick
  /-- VERIFY_EXPIRY, the verify window timer expires (R65). -/
  | verifyExpiry
  /-- VERIFY_EXPIRY_REQUEST, the granted expiry request (R66). -/
  | verifyExpiryRequest
  /-- ROUND_START, a new poll round begins (R112). -/
  | roundStart
  /-- POLL, the sending of a POLL to the next non-pending agent begins (R113); while one is being
  sent, it ends (R104). Log entry 29. -/
  | poll
  /-- REPLY_WINDOW_CLOSE, no reply within the window (R105). -/
  | replyWindowClose
  /-- REPLY_JUDGE, a reply frame has ended by the idle rule or at its 23rd byte: whether every byte
  had a valid stop bit, and its bytes (R105, R114). -/
  | replyJudge (stopBits : Bool) (bytes : List Byte)
  /-- REPORT_RAISE, a granted report entry of kind RAISE (R17). -/
  | reportRaise
  /-- REPORT_RESTORE, a granted report entry of kind RESTORE (R23). -/
  | reportRestore
  /-- REPORT_ARRIVE, a granted report entry of kind ARRIVE (R71). -/
  | reportArrive
  /-- REPORT_DEPART, a granted report entry of kind DEPART (R77). -/
  | reportDepart
  /-- LAPSE_REQUEST, a granted part entry carrying a lapse (R81). -/
  | lapseRequest
  /-- LINK_RAISE, a granted part entry carrying a LINK raise (R121). -/
  | linkRaise
  /-- WINDOW_REQUEST_GRANT, the grant of a waiting window request (R14). -/
  | windowRequestGrant
  /-- CLK_ABSENT, the CLK input stops (R203). -/
  | clkAbsent
  /-- CLK_RESUMED, the CLK input returns (R203). -/
  | clkResumed
deriving DecidableEq, Repr

end Sys2Proof
end

