-- ==== Sys2Proof/Decode.lean ====
section
/-!
DEFINITION. The decoder of the table's words. No row of spec/opcode_table.json gives bits, so no
word spells a command. (The command codes of the window are R197's; Machine/Spi.lean says which
steps a write transaction makes.)
-/

namespace Sys2Proof

/-- The command that a word spells by the table's bits: none, for every word. -/
def decodeTableWord (_nbits _w : Nat) : Option Instr := none

end Sys2Proof
end

