-- ==== Sys2Proof/Config.lean ====
section
/-!
DEFINITION. What is fixed for the part: its capacities (00_scope.md, 5.4), the command codes of
R197, and the limits of the link's frames. The spec leaves no result value open, so there is no
free value here.
-/

namespace Sys2Proof.Config

/-- The entries of the general pool, indices 0 to 125 (R1). -/
def generalSize : Nat := 126

/-- The staging records, the root included (00_scope.md, 5.4; R58). -/
def stageCapacity : Nat := 320

/-- The agents a map may carry (R58). -/
def agentCapacity : Nat := 24

/-- The usable free count at which TABLE FULL is restored (R95). -/
def fullMargin : Nat := 4

/-- The highest sequence an entry can take (R7). -/
def lastSequence : Nat := 4294967295

/-- The indices one sweep step covers (R177). -/
def sweepWidth : Nat := 8

/-- The longest frame of the link (R105). -/
def frameMax : Nat := 22

/-- The codes that name a command (R197). -/
def commandCodes : List Byte :=
  [0x10, 0x11, 0x12, 0x22, 0x23, 0x24, 0x30, 0x31, 0x40, 0x41, 0x42, 0x43, 0x44, 0x45,
   0x50, 0x51, 0x52, 0x53, 0x54, 0x55, 0x60]

end Sys2Proof.Config
end

