-- ==== Sys2Proof/Machine/State.lean ====
section
/-!
DEFINITION. The state of the part, block by block (00_scope.md, section 3), as plain data, and its
value after cold reset.
-/

namespace Sys2Proof.Machine

/-! ## Named values (00_scope.md, section 7) -/

/-- The domains of conditions. -/
inductive Domain where
  | unit
  | field
deriving DecidableEq, Repr

/-- The actions, lowest first. -/
inductive Action where
  | notice
  | diagnostic
  | fatal
deriving DecidableEq, Repr

/-- The standing states of an entry; FREE is the absence of an entry (R3). -/
inductive EntryState where
  | activeUnack
  | activeAck
  | clearedUnack
deriving DecidableEq, Repr

/-- Who originated the latest raise of an entry (R2). -/
inductive Origin where
  | part
  | controller
  | agent (address : Byte)
deriving DecidableEq, Repr

/-- Presence of a configured location (R55). -/
inductive Presence where
  | unverified
  | present
  | absent
  | foreign
deriving DecidableEq, Repr

/-- The levels of configurable paths (R47). -/
inductive Level where
  | root
  | station
  | bay
  | node
deriving DecidableEq, Repr

/-- The topology states (R56). -/
inductive TopoState where
  | empty
  | loaded
  | committing
deriving DecidableEq, Repr

/-- The plant modes (R129). -/
inductive Mode where
  | hold
  | run
deriving DecidableEq, Repr

/-- The release states (R128). -/
inductive ReleaseState where
  | withheld
  | granted
  | tripped
deriving DecidableEq, Repr

/-- The states of an agent (R110). -/
inductive AgentState where
  | offline
  | online
  | lapsed
deriving DecidableEq, Repr

/-- The states of a cursor (R162). -/
inductive CursorState where
  | closed
  | opened
  | exhausted
deriving DecidableEq, Repr

/-- The command states (R194). -/
inductive CmdState where
  | idle
  | busy
  | done
  | refused
deriving DecidableEq, Repr

/-- The three request sources, in the cyclic order of the rotation (R14). -/
inductive Source where
  | link
  | window
  | verify
deriving DecidableEq, Repr

/-- The verdicts of R108. -/
inductive Verdict where
  | none
  | accepted
  | nothingStanding
  | refusedFull
  | refusedSpent
  | refusedScope
  | refusedUnreachable
  | refusedLatched
  | refusedGroup
  | refusedMalformed
  | refusedBusy
deriving DecidableEq, Repr

/-! ## The Condition Table (01_the_condition_table.md) -/

/-- A location path as its four bytes (00_scope.md, 5.3): an absent station, node or channel is
0xFF, an absent bay 0. -/
structure LocPath where
  station : Byte
  bay     : Byte
  node    : Byte
  channel : Byte
deriving DecidableEq, Repr

/-- The key of a condition: path, group, code (R4). -/
structure Key where
  path  : LocPath
  group : Byte
  code  : Byte
deriving DecidableEq, Repr

/-- The fields of a standing entry (R2), but for its index and generation. -/
structure Entry where
  seq        : Nat
  key        : Key
  anchor     : Nat
  domain     : Domain
  state      : EntryState
  logged     : Action
  executed   : Action
  escalated  : Bool
  latching   : Bool
  origin     : Origin
  occ        : Nat
  first      : Stamp
  last       : Stamp
  burstStart : Stamp
  burstCount : Nat
  detail     : List Byte
  sweepMark  : Bool
deriving DecidableEq, Repr

/-- One of the 128 entries: its generation, and its fields while it stands. A FREE entry keeps only
its index and its generation (R3). -/
structure Slot where
  gen   : Byte
  entry : Option Entry
deriving DecidableEq, Repr

/-- A cursor (R162). -/
structure Cursor where
  state      : CursorState
  domainMask : Byte
  stateMask  : Byte
  minimum    : Action
  subtree    : Option LocPath
  bound      : Nat
  last       : Nat
deriving DecidableEq, Repr

/-- The sweep state of a CLEAR-DOMAIN (R175), and whether the one request of the present gap has
been taken (R15). -/
structure Sweep where
  domain   : Domain
  bound    : Nat
  next     : Nat
  marked   : Nat
  retired  : Nat
  gapTaken : Bool
deriving DecidableEq, Repr

/-- What the Table Engine owns (00_scope.md, section 3; R14, R175). -/
structure Engine where
  slots       : Vector Slot 128
  seqNext     : Nat
  seqSpent    : Bool
  cursors     : Vector Cursor 4
  sweep       : Option Sweep
  lastGranted : Source
deriving DecidableEq, Repr

/-! ## Group Table and limits (02_group_policy.md, 05_space_in_the_table.md) -/

/-- A group record (R30). -/
structure GroupRecord where
  enabled        : Bool
  domain         : Domain
  logged         : Action
  configurable   : Bool
  configured     : Action
  runDemoted     : Bool
  latching       : Bool
  summaryBit     : BitVec 4
  burstThreshold : Byte
  burstWindow    : BitVec 16
  momentary      : Bool
deriving DecidableEq, Repr

/-- The three limits (R99); the verify window in steps of 100 ms. -/
structure Limits where
  reserve     : Nat
  windowSteps : Nat
  pollGap     : Nat
deriving DecidableEq, Repr

/-! ## Topology Map (03_locations_and_the_topology_map.md) -/

/-- An active location record (R48). -/
structure Location where
  path     : LocPath
  level    : Level
  parent   : Nat
  kind     : Byte
  agent    : Byte
  limit    : Nat
  presence : Presence
  own      : Nat
  below    : Nat
  uMark    : Bool
  fMark    : Bool
deriving DecidableEq, Repr

/-- A staging record (R57 to R59). -/
structure Staged where
  path   : LocPath
  level  : Level
  parent : Nat
  kind   : Byte
  agent  : Byte
  limit  : Nat
deriving DecidableEq, Repr

/-- The verify window timer (R65), and its expiry request at the Table Engine (R66). -/
structure VerifyTimer where
  running : Bool
  start   : Stamp
  waiting : Bool
deriving DecidableEq, Repr

/-- What the Topology Map owns, and the number of FIELD entries a commit in progress has retired. -/
structure Topology where
  state         : TopoState
  locs          : List Location
  staged        : List Staged
  commitRetired : Nat
  verify        : VerifyTimer
deriving DecidableEq, Repr

/-! ## Link Controller (06_the_report_link.md) -/

/-- A roster record (R109). -/
structure Agent where
  address : Byte
  home    : Nat
  state   : AgentState
  misses  : Nat
  limit   : Nat
  lastSeq : Byte
  stored  : Byte × Verdict
  waiting : Bool
deriving DecidableEq, Repr

/-- A REPORT as received (R106, R111). -/
structure Report where
  agent  : Byte
  seq    : Byte
  kind   : Byte
  path   : LocPath
  group  : Byte
  code   : Byte
  detail : List Byte
deriving DecidableEq, Repr

/-- An entry of the link queue (R111): a report, or a part entry with a LINK raise, a lapse, or
both. -/
inductive LinkEntry where
  | report (r : Report)
  | part (agent : Byte) (linkCode : Option Byte) (lapse : Bool)
deriving DecidableEq, Repr

/-- How the reply of an exchange is judged: in full; only to answer REFUSED_BUSY, since a commit
began meanwhile; not at all, since the roster was rebuilt meanwhile (R123). -/
inductive ExchangeFate where
  | live
  | busyOnly
  | dropped
deriving DecidableEq, Repr

/-- The exchange on the line: the polled agent, the POLL frame sent, how its reply is judged, and
whether that has been done while bytes still come (R105, R113). -/
structure Exchange where
  agent  : Byte
  frame  : List Byte
  fate   : ExchangeFate
  judged : Bool
deriving DecidableEq, Repr

/-- Where the poll round stands (R112): polling stopped; a new round due at once, after a commit
(R112, R123); one due when the exchange on the line is over, after WARM-RESTART (R124); come to an
agent, whose POLL waits for the line; its exchange running; in the gap after a round, with the
milliseconds left. -/
inductive RoundPhase where
  | stopped
  | due
  | dueAfter
  | calling
  | polling
  | gap (left : Nat)
deriving DecidableEq, Repr

/-- The line as the part sees it: free, or taken by the exchange's reply; driven with a POLL (R104);
taken by bytes that are discarded (R105). -/
inductive Line where
  | idle
  | sending
  | busy
deriving DecidableEq, Repr

/-- What the Link Controller owns. -/
structure Link where
  roster   : List Agent
  queue    : List LinkEntry
  phase    : RoundPhase
  position : Option Byte
  exchange : Option Exchange
  line     : Line
deriving DecidableEq, Repr

/-! ## Release Control, Summary Unit, Command Window -/

/-- What Release Control holds (R128). -/
structure ReleaseControl where
  mode      : Mode
  state     : ReleaseState
  fatalCopy : Nat
deriving DecidableEq, Repr

/-- What the Summary Unit owns (R142, R143). -/
structure Summary where
  word     : BitVec 16
  unitNew  : Bool
  fieldNew : Bool
deriving DecidableEq, Repr

/-- The four derived counts (R147). -/
structure Counts where
  unitStanding  : Nat
  fieldStanding : Nat
  fatalHeld     : Nat
  free          : Nat
deriving DecidableEq, Repr

/-- A WARM-RESTART whose request has ended: its response, and whether the window has made the clear
of the causes that is taken on its own before the completion (R185, R195). -/
structure Restart where
  response : List Byte
  cleared  : Bool
deriving DecidableEq, Repr

/-- What the Command Window owns (R187). -/
structure Window where
  cmd         : Byte
  cmdState    : CmdState
  overrun     : Bool
  result      : Byte
  cause       : Byte
  enable      : Byte
  counts      : Counts
  stampLatch  : BitVec 32
  arg         : Vector Byte 32
  argCopy     : Vector Byte 32
  resp        : Vector Byte 48
  waiting     : Bool
  restart     : Option Restart
  heldSummary : Option (BitVec 16)
  heldCounts  : Option Counts
deriving DecidableEq, Repr

/-- The SPI port (R188): CSN high; a transaction whose header is awaited; a write or a read, with
the address of its next byte and, in a write, the last byte written to CMD; a transaction that cold
reset has cut off, until CSN rises. -/
inductive Port where
  | released
  | header
  | writing (address : BitVec 7) (code : Option Byte)
  | reading (address : BitVec 7)
  | cut
deriving DecidableEq, Repr

/-! ## The machine -/

/-- No event of the spec stops the part: errors of the controller are result codes (R200), errors
of agents are verdicts and LINK conditions (R108, R121). -/
inductive Fault
deriving DecidableEq, Repr

/-- Why a step has no meaning. -/
inductive Refusal where
  /-- Raised by exec's arm of a command that has no meaning yet; no arm does. Safe: it stops. -/
  | notModelled (mnemonic : String)
deriving DecidableEq, Repr

/-- The state of the part. inReset says that the part is held in cold reset (R186); resetnLow,
poweringUp and clkPresent are its inputs RESETN, supply and CLK (R203); pending is the queue of
steps still to happen. -/
structure State where
  window     : Window
  port       : Port
  engine     : Engine
  topo       : Topology
  groups     : Vector GroupRecord 31
  limits     : Limits
  link       : Link
  release    : ReleaseControl
  summary    : Summary
  clock      : Stamp
  inReset    : Bool
  resetnLow  : Bool
  poweringUp : Bool
  clkPresent : Bool
  pending    : List Instr
deriving DecidableEq, Repr

/-! ## Values after cold reset -/

/-- The path of the root, U (00_scope.md, 5.3). -/
def LocPath.root : LocPath := ⟨0xFF, 0x00, 0xFF, 0xFF⟩

/-- A FREE entry after cold reset (R28). -/
def Slot.reset : Slot := ⟨0, none⟩

/-- A CLOSED cursor (R162). -/
def Cursor.closed : Cursor := ⟨.closed, 0, 0, .notice, none, 0, 0⟩

/-- The root's record (R49). -/
def Location.root : Location :=
  { path := LocPath.root, level := .root, parent := 0, kind := 0, agent := 0, limit := 3,
    presence := .present, own := 0, below := 0, uMark := false, fMark := false }

/-- The implicit root of the staging area (R57). -/
def Staged.root : Staged :=
  { path := LocPath.root, level := .root, parent := 0, kind := 0, agent := 0, limit := 3 }

/-- An open group after cold reset (R35). -/
def GroupRecord.openDefault : GroupRecord :=
  { enabled := false, domain := .field, logged := .diagnostic, configurable := true,
    configured := .diagnostic, runDemoted := false, latching := false, summaryBit := 15,
    burstThreshold := 0, burstWindow := 1000, momentary := false }

/-- A part-owned group after cold reset: always enabled, not latching, burst off (R32, R46). -/
def GroupRecord.owned (domain : Domain) (logged : Action) (configurable : Bool)
    (configured : Action) (runDemoted : Bool) (bit : BitVec 4) (momentary : Bool) : GroupRecord :=
  { enabled := true, domain := domain, logged := logged, configurable := configurable,
    configured := configured, runDemoted := runDemoted, latching := false, summaryBit := bit,
    burstThreshold := 0, burstWindow := 1000, momentary := momentary }

/-- Groups 1 to 8 after cold reset (R46). -/
def GroupRecord.partGroups : List GroupRecord :=
  [GroupRecord.owned .field .diagnostic true .diagnostic false 0 false,
   GroupRecord.owned .field .diagnostic true .diagnostic false 1 false,
   GroupRecord.owned .field .notice false .diagnostic false 2 true,
   GroupRecord.owned .field .fatal true .fatal true 3 false,
   GroupRecord.owned .field .notice false .diagnostic false 4 false,
   GroupRecord.owned .unit .diagnostic true .diagnostic false 5 false,
   GroupRecord.owned .field .diagnostic true .diagnostic false 6 false,
   GroupRecord.owned .unit .diagnostic true .diagnostic false 7 false]

/-- The Group Table after cold reset (R46): group g at position g - 1. -/
def GroupRecord.resetTable : Vector GroupRecord 31 :=
  ⟨⟨GroupRecord.partGroups ++ List.replicate 23 GroupRecord.openDefault⟩, rfl⟩

/-- The Command Window after cold reset (R202). -/
def Window.reset : Window :=
  { cmd := 0, cmdState := .idle, overrun := false, result := 0, cause := 0, enable := 0,
    counts := ⟨0, 0, 0, 126⟩, stampLatch := 0, arg := Vector.replicate 32 0,
    argCopy := Vector.replicate 32 0, resp := Vector.replicate 48 0, waiting := false,
    restart := none, heldSummary := none, heldCounts := none }

/-- The Table Engine after cold reset (R28). -/
def Engine.reset : Engine :=
  { slots := Vector.replicate 128 Slot.reset, seqNext := 1, seqSpent := false,
    cursors := Vector.replicate 4 Cursor.closed, sweep := none, lastGranted := .verify }

/-- The Topology Map after cold reset (R68). -/
def Topology.reset : Topology :=
  { state := .empty, locs := [Location.root], staged := [Staged.root], commitRetired := 0,
    verify := ⟨false, 0, false⟩ }

/-- The machine right after cold reset, as each chapter gives it (R186; R28, R46, R68, R102, R125,
R138, R154, R202). link.position is log entry 19; port and the inputs are log entry 18. -/
def State.reset : State :=
  { window := Window.reset
    port := .released
    engine := Engine.reset
    topo := Topology.reset
    groups := GroupRecord.resetTable
    limits := ⟨16, 30, 2⟩
    link := ⟨[], [], .stopped, none, none, .idle⟩
    release := ⟨.hold, .withheld, 0⟩
    summary := ⟨0, false, false⟩
    clock := 0
    inReset := false
    resetnLow := false
    poweringUp := false
    clkPresent := true
    pending := [] }

end Sys2Proof.Machine
end

