-- ==== Sys2Proof/Machine/Operands.lean ====
section
/-!
DEFINITION. The forms in which values enter and leave the part: location paths (00_scope.md, 5.3;
R47), byte order (R187), the argument layouts (R198), the coded bytes of responses (R137, R157,
R160, R189), the result codes (R200), the verdict codes (R108), and the CRC of the link (R107).
-/

namespace Sys2Proof.Machine

/-! ## Location paths -/

/-- The path is well formed: the root with every other part absent, or a station 0 to 11 with bay
1 to 15, node 0 to 127 and channel 0 to 63, a node only with a bay and a channel only with a node
(00_scope.md, 5.3). -/
def LocPath.wellFormed (p : LocPath) : Bool :=
  if p.station == 0xFF then
    p.bay == 0 && p.node == 0xFF && p.channel == 0xFF
  else
    p.station.toNat ≤ 11 && p.bay.toNat ≤ 15
      && (p.node == 0xFF || (p.node.toNat ≤ 127 && p.bay != 0))
      && (p.channel == 0xFF || (p.channel.toNat ≤ 63 && p.node != 0xFF))

/-- The path names a channel (R47). -/
def LocPath.hasChannel (p : LocPath) : Bool := p.channel != 0xFF

/-- The level of a path without channel, by its form (R47). -/
def LocPath.level (p : LocPath) : Level :=
  if p.station == 0xFF then .root
  else if p.bay == 0 then .station
  else if p.node == 0xFF then .bay
  else .node

/-- The path one step up: a channel's node, a node's bay, a bay's station, a station's root; the
root's is itself (R47, R50). -/
def LocPath.parent (p : LocPath) : LocPath :=
  if p.channel != 0xFF then { p with channel := 0xFF }
  else if p.node != 0xFF then { p with node := 0xFF }
  else if p.bay != 0 then { p with bay := 0 }
  else LocPath.root

/-- p equals q or lies below it: q's path is a prefix of p's (R122, R165). -/
def LocPath.covers (q p : LocPath) : Bool :=
  (q.station == 0xFF || q.station == p.station)
    && (q.bay == 0 || q.bay == p.bay)
    && (q.node == 0xFF || q.node == p.node)
    && (q.channel == 0xFF || q.channel == p.channel)

/-- The four bytes of a path, in order (00_scope.md, 5.3). -/
def LocPath.bytes (p : LocPath) : List Byte := [p.station, p.bay, p.node, p.channel]

/-! ## Byte order: most significant byte first (R187) -/

/-- A number as one byte. -/
def byte (n : Nat) : Byte := BitVec.ofNat 8 n

/-- A yes/no item as a byte. -/
def bit (b : Bool) : Byte := if b then 1 else 0

/-- A number as two bytes. -/
def be16 (n : Nat) : List Byte := [byte (n / 256), byte n]

/-- A number as four bytes. -/
def be32 (n : Nat) : List Byte :=
  [byte (n / 16777216), byte (n / 65536), byte (n / 256), byte n]

/-- The number two bytes spell. -/
def num16 (hi lo : Byte) : Nat := hi.toNat * 256 + lo.toNat

/-- The number four bytes spell. -/
def num32 (a b c d : Byte) : Nat :=
  a.toNat * 16777216 + b.toNat * 65536 + c.toNat * 256 + d.toNat

/-! ## Arguments (R198) -/

/-- The byte at offset k of the copied argument area. -/
def Window.argAt (w : Window) (k : Nat) : Byte := w.argCopy.toList.getD k 0

/-- The path at offsets k to k + 3. -/
def Window.argPath (w : Window) (k : Nat) : LocPath :=
  ⟨w.argAt k, w.argAt (k + 1), w.argAt (k + 2), w.argAt (k + 3)⟩

/-- A domain byte: 0 UNIT, 1 FIELD. -/
def Domain.ofByte (b : Byte) : Option Domain :=
  if b == 0 then some .unit else if b == 1 then some .field else none

/-- A yes/no byte (R198). -/
def boolOfByte (b : Byte) : Option Bool :=
  if b == 0 then some false else if b == 1 then some true else none

/-- An action byte: 0 NOTICE, 1 DIAGNOSTIC, 2 FATAL. -/
def Action.ofByte (b : Byte) : Option Action :=
  if b == 0 then some .notice
  else if b == 1 then some .diagnostic
  else if b == 2 then some .fatal
  else none

/-- A configured action byte: 1 DIAGNOSTIC, 2 FATAL. -/
def Action.configuredOfByte (b : Byte) : Option Action :=
  if b == 1 then some .diagnostic else if b == 2 then some .fatal else none

/-- A level byte: 0 ROOT, 1 STATION, 2 BAY, 3 NODE. -/
def Level.ofByte (b : Byte) : Option Level :=
  if b == 0 then some .root
  else if b == 1 then some .station
  else if b == 2 then some .bay
  else if b == 3 then some .node
  else none

/-! ## Coded bytes of responses and registers -/

def Domain.code : Domain → Byte
  | .unit => 0
  | .field => 1

def Action.code : Action → Byte
  | .notice => 0
  | .diagnostic => 1
  | .fatal => 2

/-- State byte of a standing entry (R160); FREE is 0 (R199). -/
def EntryState.code : EntryState → Byte
  | .activeUnack => 1
  | .activeAck => 2
  | .clearedUnack => 3

/-- Origin byte (R160). -/
def Origin.code : Origin → Byte
  | .part => 0
  | .controller => 0x80
  | .agent a => a

def Level.code : Level → Byte
  | .root => 0
  | .station => 1
  | .bay => 2
  | .node => 3

/-- Presence byte (R157). -/
def Presence.code : Presence → Byte
  | .unverified => 0
  | .present => 1
  | .absent => 2
  | .foreign => 3

def Mode.code : Mode → Byte
  | .hold => 0
  | .run => 1

def ReleaseState.code : ReleaseState → Byte
  | .withheld => 0
  | .granted => 1
  | .tripped => 2

def TopoState.code : TopoState → Byte
  | .empty => 0
  | .loaded => 1
  | .committing => 2

/-- Agent state byte (R170). -/
def AgentState.code : AgentState → Byte
  | .offline => 0
  | .online => 1
  | .lapsed => 2

/-- Command state, bits 1 and 0 of CSTAT (R189). -/
def CmdState.code : CmdState → Byte
  | .idle => 0
  | .busy => 1
  | .done => 2
  | .refused => 3

/-- Verdict codes (R108). -/
def Verdict.code : Verdict → Byte
  | .none => 0x00
  | .accepted => 0x01
  | .nothingStanding => 0x02
  | .refusedFull => 0x03
  | .refusedSpent => 0x04
  | .refusedScope => 0x05
  | .refusedUnreachable => 0x06
  | .refusedLatched => 0x07
  | .refusedGroup => 0x08
  | .refusedMalformed => 0x09
  | .refusedBusy => 0x0A

/-- The result codes, as bytes (R200). -/
def Result.ok : Byte := 0x00
def Result.badCommand : Byte := 0x01
def Result.badArgument : Byte := 0x02
def Result.wrongMode : Byte := 0x03
def Result.noTopology : Byte := 0x04
def Result.staleHandle : Byte := 0x05
def Result.notFound : Byte := 0x06
def Result.already : Byte := 0x07
def Result.fatalStanding : Byte := 0x08
def Result.latchedPresent : Byte := 0x09
def Result.duplicatePath : Byte := 0x0A
def Result.noParent : Byte := 0x0B
def Result.capacity : Byte := 0x0C
def Result.agentClash : Byte := 0x0D
def Result.agentLimit : Byte := 0x0E
def Result.limitConflict : Byte := 0x0F
def Result.notConfigured : Byte := 0x10
def Result.full : Byte := 0x11
def Result.spent : Byte := 0x12
def Result.listEnd : Byte := 0x13
def Result.cursorClosed : Byte := 0x14
def Result.latched : Byte := 0x15
def Result.nothingStanding : Byte := 0x16
def Result.groupDisabled : Byte := 0x17

/-- A result completes DONE when it is OK, NOT_CONFIGURED or END, and REFUSED otherwise (R194). -/
def Result.completes (r : Byte) : CmdState :=
  if r == Result.ok || r == Result.notConfigured || r == Result.listEnd then .done else .refused

/-! ## The entry view (R159, R160) -/

/-- The action and flags byte of the entry view (R160). -/
def Entry.actionFlags (e : Entry) : Byte :=
  e.logged.code ||| (e.executed.code <<< 2) ||| (bit e.escalated <<< 4) ||| (bit e.latching <<< 5)
    ||| (bit e.sweepMark <<< 6) ||| (e.domain.code <<< 7)

/-- The 47 bytes of the entry view (R159). -/
def Entry.view (index : Nat) (gen : Byte) (e : Entry) : List Byte :=
  [byte index, gen] ++ be32 e.seq ++ e.key.path.bytes ++ [e.key.group, e.key.code, e.state.code]
    ++ [e.actionFlags, e.origin.code] ++ be16 e.occ ++ be32 e.first.toNat ++ be32 e.last.toNat
    ++ [byte e.burstCount, byte e.detail.length] ++ (e.detail ++ List.replicate 20 0).take 20

/-! ## Group records (R43, R44) -/

/-- The group record in the argument layout of GROUP-SET, offsets 0 to 12 (R198, R199). -/
def GroupRecord.bytes (group : Byte) (g : GroupRecord) : List Byte :=
  [group, bit g.enabled, g.domain.code, g.logged.code, bit g.configurable, g.configured.code,
   bit g.runDemoted, bit g.latching, g.summaryBit.setWidth 8, g.burstThreshold]
    ++ be16 g.burstWindow.toNat ++ [bit g.momentary]

/-- The group record that the arguments give, when every field lies in its range (R43, check 3). -/
def Window.groupArgument (w : Window) : Option GroupRecord := do
  let enabled ← boolOfByte (w.argAt 1)
  let domain ← Domain.ofByte (w.argAt 2)
  let logged ← Action.ofByte (w.argAt 3)
  let configurable ← boolOfByte (w.argAt 4)
  let configured ← Action.configuredOfByte (w.argAt 5)
  let runDemoted ← boolOfByte (w.argAt 6)
  let latching ← boolOfByte (w.argAt 7)
  let momentary ← boolOfByte (w.argAt 12)
  let window := num16 (w.argAt 10) (w.argAt 11)
  if (w.argAt 8).toNat ≤ 15 && w.argAt 9 != 1 && 10 ≤ window && window ≤ 60000 then
    some { enabled, domain, logged, configurable, configured, runDemoted, latching, momentary,
           summaryBit := (w.argAt 8).setWidth 4, burstThreshold := w.argAt 9,
           burstWindow := BitVec.ofNat 16 window }
  else none

/-! ## The CRC of the link (R107) -/

/-- One step of the register: shifted left, combined with 0x8005 when its top bit was 1. -/
def crcStep (r : BitVec 16) : BitVec 16 :=
  if r.msb then (r <<< 1) ^^^ 0x8005 else r <<< 1

/-- n steps of the register. -/
def crcSteps : Nat → BitVec 16 → BitVec 16
  | 0, r => r
  | n + 1, r => crcSteps n (crcStep r)

/-- One byte: combined into the high eight bits, then eight steps. -/
def crcByte (r : BitVec 16) (b : Byte) : BitVec 16 :=
  crcSteps 8 (r ^^^ (b.setWidth 16 <<< 8))

/-- The CRC of bytes in frame order, from the initial value 0xFFFF. -/
def crc (bytes : List Byte) : BitVec 16 := bytes.foldl crcByte 0xFFFF

/-- The two bytes of a CRC, high byte first. -/
def crcBytes (bytes : List Byte) : List Byte := be16 (crc bytes).toNat

end Sys2Proof.Machine
end

