-- ==== Sys2Proof/Machine/Flags.lean ====
section
/-!
DEFINITION. Flags, causes, counts and policy: the executed action (R36), burst counting (R40, R41),
the causes and ATTN (R149 to R153), the events of the Summary Unit (R141 to R146), the derived
counts (R16, R147), the registers CSTAT and STATE (R189), and the release state's moves (R131 to
R133).
-/

namespace Sys2Proof.Machine

/-! ## Policy -/

/-- The record of group g of the Group Table, g in 1 to 31 (R30). -/
def groupOf (groups : Vector GroupRecord 31) (g : Byte) : GroupRecord :=
  groups.toList.getD (g.toNat - 1) GroupRecord.openDefault

/-- The order NOTICE < DIAGNOSTIC < FATAL (R165). -/
def Action.rank : Action → Nat
  | .notice => 0
  | .diagnostic => 1
  | .fatal => 2

/-- The base of the computation: the logged action, the configured one where configurable, FATAL
when escalated (R36, steps 2 and 3). -/
def baseAction (g : GroupRecord) (logged : Action) (escalated : Bool) : Action :=
  if escalated then .fatal else if g.configurable then g.configured else logged

/-- The executed action (R36). -/
def executedAction (g : GroupRecord) (mode : Mode) (logged : Action) (escalated : Bool) : Action :=
  if logged = .notice then .notice
  else
    let base := baseAction g logged escalated
    if mode = .run ∧ g.runDemoted = true ∧ base = .fatal then .diagnostic else base

/-- The elapsed time of a window, modulo 2^32 (R10). -/
def elapsed (now start : Stamp) : Nat := (now - start).toNat

/-- The burst start and burst count after a later raise (R40). -/
def burstUpdate (g : GroupRecord) (now : Stamp) (e : Entry) : Stamp × Nat :=
  if elapsed now e.burstStart ≤ g.burstWindow.toNat then (e.burstStart, min 255 (e.burstCount + 1))
  else (now, 1)

/-- The entry is escalated by a burst count (R41). -/
def escalates (g : GroupRecord) (e : Entry) (count : Nat) : Bool :=
  g.burstThreshold != 0 && e.logged != .notice && !e.escalated && g.burstThreshold.toNat ≤ count

/-! ## Causes and ATTN (R149) -/

def Cause.unew : Byte := 0x01
def Cause.fnew : Byte := 0x02
def Cause.trip : Byte := 0x04
def Cause.space : Byte := 0x08
def Cause.lapse : Byte := 0x10
def Cause.done : Byte := 0x20
def Cause.verify : Byte := 0x40
def Cause.overrun : Byte := 0x80

/-- A cause is set; one already set stays set (R150). -/
def setCause (s : State) (c : Byte) : State :=
  { s with window.cause := s.window.cause ||| c }

/-- The part works: it is not held in cold reset, and RESETN is not low (R186; log entry 7). -/
def State.live (s : State) : Bool := !s.inReset && !s.resetnLow

/-- The steps that follow CLK can fall (R203; log entry 6). -/
def State.clocked (s : State) : Bool := s.live && s.clkPresent

/-- ATTN is asserted: some enabled cause is set (R153); never in cold reset or while RESETN is low
(R186). -/
def State.attn (s : State) : Bool := s.live && (s.window.cause &&& s.window.enable) != 0

/-- RELEASE is high: the release state is GRANTED; low in cold reset and while RESETN is low
(R135). -/
def State.releasePin (s : State) : Bool := s.live && s.release.state == .granted

/-- LDE is raised: a POLL is being sent (R104); low in cold reset (R186). -/
def State.lde (s : State) : Bool := s.live && s.link.line == .sending

/-- The levels of one byte on the line, bit time by bit time: a low start bit, the data bits least
significant first, a high stop bit (R104). -/
def byteLevels (b : Byte) : List Bool := false :: (List.range 8).map b.getLsbD ++ [true]

/-- The levels that LTX takes, bit time by bit time: the bytes of the POLL back to back while LDE is
raised, and high otherwise (R104). -/
def State.ltx (s : State) : List Bool :=
  match s.lde, s.link.exchange with
  | true, some x => x.frame.flatMap byteLevels
  | _, _ => [true]

/-! ## Registers (R189) -/

/-- CSTAT. -/
def State.cstat (s : State) : Byte := s.window.cmdState.code ||| (bit s.window.overrun <<< 7)

/-- STATE. -/
def State.stateRegister (s : State) : Byte :=
  s.release.mode.code ||| (s.release.state.code <<< 1) ||| (s.topo.state.code <<< 3)
    ||| (bit s.engine.seqSpent <<< 5)

/-! ## Events of the Summary Unit (R141) -/

/-- The kinds of event that name a domain and a summary bit. -/
inductive EventKind where
  | creation
  | reactivation
  | escalation
  | reactivationEscalation
deriving DecidableEq, Repr

/-- An event: its kind, the domain and the summary bit it names. -/
structure Event where
  kind   : EventKind
  domain : Domain
  bit    : BitVec 4
deriving DecidableEq, Repr

/-- The NEW flag of a domain. -/
def Summary.newFlag (u : Summary) : Domain → Bool
  | .unit => u.unitNew
  | .field => u.fieldNew

/-- The Summary Unit with the NEW flag of a domain at a value. -/
def Summary.setNewFlag (u : Summary) (d : Domain) (b : Bool) : Summary :=
  match d with
  | .unit => { u with unitNew := b }
  | .field => { u with fieldNew := b }

/-- The cause of a domain's NEW flag (R143). -/
def Domain.newCause : Domain → Byte
  | .unit => Cause.unew
  | .field => Cause.fnew

/-- An event sets a NEW flag: a creation or a reactivation does, an escalation alone does not
(R143). -/
def EventKind.setsNew : EventKind → Bool
  | .creation => true
  | .reactivation => true
  | .escalation => false
  | .reactivationEscalation => true

/-- One event at the Summary Unit: the summary bit is latched (R142); a NEW flag that rises sets
its cause (R143). Gives the unit after it and the causes set. -/
def Summary.applyEvent (uc : Summary × Byte) (v : Event) : Summary × Byte :=
  let u := { uc.1 with word := uc.1.word ||| ((1 : BitVec 16) <<< v.bit.toNat) }
  if v.kind.setsNew && !u.newFlag v.domain then
    (u.setNewFlag v.domain true, uc.2 ||| v.domain.newCause)
  else (u, uc.2)

/-! ## Derived counts (R16, R147) -/

/-- The number of standing entries that satisfy p. -/
def countEntries (slots : Vector Slot 128) (p : Entry → Bool) : Nat :=
  slots.toList.countP fun sl =>
    match sl.entry with
    | some e => p e
    | none => false

/-- The number of standing entries of a domain. -/
def standing (slots : Vector Slot 128) (d : Domain) : Nat := countEntries slots (·.domain == d)

/-- FATAL_HELD: the number of standing entries whose executed action is FATAL (R39). -/
def fatalHeld (slots : Vector Slot 128) : Nat := countEntries slots (·.executed == .fatal)

/-- The number of FREE entries of the general pool (R1). -/
def freeCount (slots : Vector Slot 128) : Nat :=
  (slots.toList.take Config.generalSize).countP (·.entry.isNone)

/-- The four derived counts of a table. -/
def Counts.of (slots : Vector Slot 128) : Counts :=
  ⟨standing slots .unit, standing slots .field, Machine.fatalHeld slots, freeCount slots⟩

/-- The usable free count of a domain (R88). -/
def usableFree (slots : Vector Slot 128) (reserve : Nat) : Domain → Nat
  | .unit => freeCount slots
  | .field => freeCount slots - reserve

/-! ## The release state (R131 to R133) -/

/-- A FATAL_HELD hand-off of a value that differs from the one last sent (R128, R132, R133). -/
def ReleaseControl.handOff (r : ReleaseControl) (fatal : Nat) : ReleaseControl :=
  if fatal = r.fatalCopy then r
  else if fatal = 0 then
    { r with fatalCopy := 0, state := if r.state = .tripped then .withheld else r.state }
  else { r with fatalCopy := fatal, state := .tripped }

/-- The hand-off trips a GRANTED release, which sets the TRIP cause (R132). -/
def ReleaseControl.trips (r : ReleaseControl) (fatal : Nat) : Bool :=
  fatal != r.fatalCopy && fatal != 0 && r.state == .granted

/-- The withdrawal of a GRANTED release by SET-MODE HOLD (R131) and WARM-RESTART (R139). -/
def ReleaseControl.hold (r : ReleaseControl) : ReleaseControl :=
  { r with mode := .hold, state := if r.state = .granted then .withheld else r.state }

end Sys2Proof.Machine
end

