-- ==== Sys2Proof/Machine/Ops.lean ====
section
/-!
DEFINITION. The shared operations: the Topology Map (R50 to R55), the operations of the Table
Engine on entries (R17 to R26, R88 to R97), the hand-off of R16, the grant of R14 and R15, the
taking and the completion of commands (R192 to R195), the verify timer (R65), and the roster and
queue of the Link Controller (R109 to R121).
-/

namespace Sys2Proof.Machine

/-! ## Topology Map -/

/-- The parent index of record i (R48). -/
def parentOf (locs : List Location) (i : Nat) : Nat :=
  match locs[i]? with
  | some l => l.parent
  | none => 0

/-- The strict configured ancestors of record i, at most n of them, nearest first (R47). -/
def ancestorsUpTo (locs : List Location) : Nat → Nat → List Nat
  | 0, _ => []
  | n + 1, i => if i = 0 then [] else parentOf locs i :: ancestorsUpTo locs n (parentOf locs i)

/-- The strict configured ancestors of record i: the tree has at most four levels (R47). -/
def ancestors (locs : List Location) (i : Nat) : List Nat := ancestorsUpTo locs 3 i

/-- The presence of record i (R55); an index above the map reads PRESENT (log entry 27). -/
def presenceAt (locs : List Location) (i : Nat) : Presence :=
  match locs[i]? with
  | some l => l.presence
  | none => .present

/-- CUT of record i: some strict configured ancestor is ABSENT (R52). -/
def cut (locs : List Location) (i : Nat) : Bool :=
  (ancestors locs i).any fun j => presenceAt locs j == .absent

/-- The record of a path, if the path is configured; a path with a channel never is (R47). -/
def configured (locs : List Location) (p : LocPath) : Option Nat :=
  if p.hasChannel then none else locs.findIdx? (·.path == p)

/-- The nearest configured location on the path, looking at n paths upward (R50). -/
def anchorUpTo (locs : List Location) : Nat → LocPath → Nat
  | 0, _ => 0
  | n + 1, p =>
    match configured locs p with
    | some i => i
    | none => anchorUpTo locs n p.parent

/-- The anchor of a path: the nearest configured location on it, the root at worst (R50). -/
def anchorOf (locs : List Location) (p : LocPath) : Nat := anchorUpTo locs 5 p

/-- CUT of a path: of its record, or, for a path that is not configured, that its anchor is ABSENT
or CUT (R52). This is also the denial of "reachable for arrival" (R70). -/
def pathCut (locs : List Location) (p : LocPath) : Bool :=
  match configured locs p with
  | some i => cut locs i
  | none =>
    presenceAt locs (anchorOf locs p) == .absent || cut locs (anchorOf locs p)

/-- Reachable for raising: the path's anchor is not ABSENT and not CUT (R70). -/
def reachableForRaise (locs : List Location) (p : LocPath) : Bool :=
  presenceAt locs (anchorOf locs p) != .absent && !cut locs (anchorOf locs p)

/-- An entry anchored at a entered the active states: ACTIVE_OWN there and ACTIVE_BELOW of every
ancestor rise by one (R51). -/
def countUp (locs : List Location) (a : Nat) : List Location :=
  locs.mapIdx fun j l =>
    { l with own := if j = a then l.own + 1 else l.own,
             below := if (ancestors locs a).contains j then l.below + 1 else l.below }

/-- An entry anchored at a left the active states (R51). -/
def countDown (locs : List Location) (a : Nat) : List Location :=
  locs.mapIdx fun j l =>
    { l with own := if j = a then l.own - 1 else l.own,
             below := if (ancestors locs a).contains j then l.below - 1 else l.below }

/-- The record with a mark set or cleared (R54). -/
def Location.setMark (l : Location) (d : Domain) (b : Bool) : Location :=
  match d with
  | .unit => { l with uMark := b }
  | .field => { l with fMark := b }

/-- The mark of domain d at record i, set or cleared (R54). -/
def markAt (locs : List Location) (d : Domain) (i : Nat) (b : Bool) : List Location :=
  locs.modify i (·.setMark d b)

/-- The marks of domain d cleared at every record (R54). -/
def clearMarks (locs : List Location) (d : Domain) : List Location := locs.map (·.setMark d false)

/-- The presence of record i set; the root's is never changed (R49). -/
def setPresence (locs : List Location) (i : Nat) (p : Presence) : List Location :=
  if i = 0 then locs else locs.modify i fun l => { l with presence := p }

/-- FAULT of record l at index i (R53). -/
def faultOf (locs : List Location) (i : Nat) (l : Location) : Bool :=
  decide (0 < l.own) || decide (0 < l.below) || cut locs i || l.uMark || l.fMark

/-! ## A request at the Table Engine -/

/-- What the Table Engine works on between the taking of a request and its hand-off: the clock,
mode, groups and UNIT_RESERVE as read at the taking (R9, R31, R89), the table, the counter, the
map, and the events gathered for the hand-off (R16). -/
structure Work where
  now      : Stamp
  mode     : Mode
  groups   : Vector GroupRecord 31
  reserve  : Nat
  slots    : Vector Slot 128
  seqNext  : Nat
  seqSpent : Bool
  locs     : List Location
  events   : List Event
  space    : Bool
deriving DecidableEq, Repr

/-- The taking of a request. -/
def taking (s : State) : Work :=
  { now := s.clock, mode := s.release.mode, groups := s.groups, reserve := s.limits.reserve,
    slots := s.engine.slots, seqNext := s.engine.seqNext, seqSpent := s.engine.seqSpent,
    locs := s.topo.locs, events := [], space := false }

/-- The table indices in ascending order. -/
def indices : List (Fin 128) := List.finRange 128

/-- The entry at index i, if one stands. -/
def Work.entry (w : Work) (i : Fin 128) : Option Entry := w.slots[i].entry

/-- The group record of a group number, as read at the taking. -/
def Work.group (w : Work) (g : Byte) : GroupRecord := groupOf w.groups g

/-- The index of the standing entry with a key (R4). -/
def findKey (slots : Vector Slot 128) (k : Key) : Option (Fin 128) :=
  indices.find? fun i =>
    match slots[i].entry with
    | some e => e.key == k
    | none => false

/-- The entry at index i replaced; its index and generation stay. -/
def Work.put (w : Work) (i : Fin 128) (e : Entry) : Work :=
  { w with slots := w.slots.set i.val { w.slots[i] with entry := some e } i.isLt }

/-- The state is one of the active ones (00_scope.md, section 7). -/
def EntryState.active : EntryState → Bool
  | .activeUnack => true
  | .activeAck => true
  | .clearedUnack => false

/-! ### Retirement and hysteresis (R26, R95) -/

/-- The retirement of the entry at index i (R26), without the hysteresis check that follows it. -/
def Work.retireEntry (w : Work) (i : Fin 128) : Work :=
  match w.entry i with
  | none => w
  | some e =>
    { w with slots := w.slots.set i.val ⟨w.slots[i].gen + 1, none⟩ i.isLt,
             locs := if e.state.active then countDown w.locs e.anchor else w.locs }

/-- The outcomes of a restore (R23). -/
inductive Restored where
  | nothing
  | latched
  | restored
deriving DecidableEq, Repr

/-- A restore of the entry at index i, with the retirement to use for an ACTIVE-ACK entry (R23). -/
def Work.restoreWith (retire : Work → Fin 128 → Work) (w : Work) (i : Fin 128) : Work × Restored :=
  match w.entry i with
  | none => (w, .nothing)
  | some e =>
    if e.latching then (w, .latched)
    else match e.state with
      | .activeUnack =>
        ({ w.put i { e with state := .clearedUnack } with locs := countDown w.locs e.anchor },
          .restored)
      | .activeAck => (retire w i, .restored)
      | .clearedUnack => (w, .restored)

/-- The reserved index of a domain's TABLE FULL entry (R5). -/
def tableFullIndex : Domain → Fin 128
  | .unit => 126
  | .field => 127

/-- The code of a domain's TABLE FULL condition (R5). -/
def tableFullCode : Domain → Byte
  | .unit => 1
  | .field => 2

/-- The key of a domain's TABLE FULL condition (R5). -/
def tableFullKey (d : Domain) : Key := ⟨LocPath.root, 6, tableFullCode d⟩

/-- The hysteresis check of one domain (R95). An ACTIVE-ACK entry is retired without a check of its
own: that check would find the free count and the other domain as they are (log entry 12). -/
def Work.hysteresisOf (w : Work) (d : Domain) : Work :=
  match w.entry (tableFullIndex d) with
  | some e =>
    if Config.fullMargin ≤ usableFree w.slots w.reserve d && e.state.active then
      (w.restoreWith Work.retireEntry (tableFullIndex d)).1
    else w
  | none => w

/-- The hysteresis check, first for UNIT, then for FIELD (R95). -/
def Work.hysteresis (w : Work) : Work := (w.hysteresisOf .unit).hysteresisOf .field

/-- The retirement of the entry at index i, with the hysteresis check after it (R26). -/
def Work.retire (w : Work) (i : Fin 128) : Work :=
  match w.entry i with
  | none => w
  | some _ => (w.retireEntry i).hysteresis

/-- The restore of the standing entry with a key (R23). -/
def Work.restore (w : Work) (k : Key) : Work × Restored :=
  match findKey w.slots k with
  | none => (w, .nothing)
  | some i => w.restoreWith Work.retire i

/-! ### Raises (R17 from step 5) -/

/-- The outcomes of a raise (R18). -/
inductive Raised where
  | created
  | repeated
  | reactivated
  | momentary
  | full
  | spent
deriving DecidableEq, Repr

/-- What a raise carries (R17). -/
structure Raise where
  key    : Key
  detail : List Byte
  origin : Origin
deriving DecidableEq, Repr

/-- An event of a group of the request (R141). -/
def Work.event (w : Work) (kind : EventKind) (d : Domain) (g : GroupRecord) : Work :=
  { w with events := w.events ++ [⟨kind, d, g.summaryBit⟩] }

/-- The fields every raise of a standing entry updates: occurrences, last stamp, origin, burst
fields, sweep mark (R20, R22). -/
def Entry.touch (e : Entry) (r : Raise) (now : Stamp) (burst : Stamp × Nat) : Entry :=
  { e with occ := min 65535 (e.occ + 1), last := now, origin := r.origin,
           burstStart := burst.1, burstCount := burst.2, sweepMark := false }

/-- The detail after a raise: replaced by one of length 1 or more (R20). -/
def Entry.withDetail (e : Entry) (r : Raise) : Entry :=
  if r.detail.isEmpty then e else { e with detail := r.detail }

/-- A raise that finds an active entry: a repeat (R20). One that escalates it sets the escalated
flag and computes the executed action by R36 with the group and the mode as the request reads them
(R37, R38, R41, R45), whatever the action was (log entry 31). -/
def Work.repeatRaise (w : Work) (r : Raise) (i : Fin 128) (e : Entry) : Work :=
  let g := w.group e.key.group
  let burst := burstUpdate g w.now e
  let e' := (e.touch r w.now burst).withDetail r
  if escalates g e burst.2 then
    (w.put i { e' with
      escalated := true
      executed := executedAction g w.mode e.logged true }).event .escalation e.domain g
  else w.put i e'

/-- A raise that reactivates a CLEARED-UNACK entry (R21); the burst update comes first and the
executed action is computed once (R37). -/
def Work.reactivateRaise (w : Work) (r : Raise) (i : Fin 128) (e : Entry) : Work :=
  let g := w.group e.key.group
  let burst := burstUpdate g w.now e
  let esc := escalates g e burst.2
  let e' := { (e.touch r w.now burst).withDetail r with
    state := .activeUnack
    escalated := e.escalated || esc
    executed := executedAction g w.mode e.logged (e.escalated || esc) }
  { (w.put i e').event (if esc then .reactivationEscalation else .reactivation) e.domain g with
    locs := countUp w.locs e.anchor }

/-- A raise that finds a CLEARED-UNACK entry of a momentary group (R22). -/
def Work.momentaryRaise (w : Work) (r : Raise) (i : Fin 128) (e : Entry) : Work :=
  w.put i (e.touch r w.now (burstUpdate (w.group e.key.group) w.now e))

/-- A raise applied to the standing entry at index i (R17, step 5). -/
def Work.raiseStanding (w : Work) (r : Raise) (i : Fin 128) (e : Entry) : Work × Raised :=
  if e.state.active then (w.repeatRaise r i e, .repeated)
  else if (w.group e.key.group).momentary then (w.momentaryRaise r i e, .momentary)
  else (w.reactivateRaise r i e, .reactivated)

/-- The entry a creation writes (R19). -/
def Work.newEntry (w : Work) (r : Raise) : Entry :=
  let g := w.group r.key.group
  { seq := w.seqNext, key := r.key, anchor := anchorOf w.locs r.key.path, domain := g.domain,
    state := if g.momentary then .clearedUnack else .activeUnack, logged := g.logged,
    executed := executedAction g w.mode g.logged false, escalated := false,
    latching := g.latching, origin := r.origin, occ := 1, first := w.now, last := w.now,
    burstStart := w.now, burstCount := 1, detail := r.detail, sweepMark := false }

/-- The creation of an entry at index i (R19). -/
def Work.create (w : Work) (r : Raise) (i : Fin 128) : Work :=
  let e := w.newEntry r
  { (w.put i e).event .creation e.domain (w.group r.key.group) with
    seqNext := w.seqNext + 1
    locs := if e.state.active then countUp w.locs e.anchor else w.locs }

/-- A creation refused for the sequence counter (R8). -/
def Work.refuseSpent (w : Work) : Work := { w with seqSpent := true, space := true }

/-- The TABLE FULL raise of a refusal (R92, step 3; R93): it takes its reserved index. -/
def Work.raiseTableFull (w : Work) (d : Domain) : Work :=
  let r : Raise := ⟨tableFullKey d, [], .part⟩
  match findKey w.slots r.key with
  | some i =>
    match w.entry i with
    | some e => (w.raiseStanding r i e).1
    | none => w
  | none =>
    if Config.lastSequence < w.seqNext then w.refuseSpent else w.create r (tableFullIndex d)

/-- A creation of domain d, anchored at a, refused for space (R92). -/
def Work.refuseFull (w : Work) (d : Domain) (a : Nat) : Work :=
  { ({ w with locs := markAt w.locs d a true } : Work).raiseTableFull d with space := true }

/-- The FREE general entry with the lowest index (R89, step 2). -/
def lowestFree (slots : Vector Slot 128) : Option (Fin 128) :=
  indices.find? fun i => decide (i.val < Config.generalSize) && slots[i].entry.isNone

/-- Among the listed indices, the standing entry of lowest sequence that satisfies p, with its
sequence. -/
def oldest (slots : Vector Slot 128) (p : Fin 128 → Entry → Bool) :
    List (Fin 128) → Option (Fin 128 × Nat)
  | [] => none
  | i :: rest =>
    match slots[i].entry with
    | none => oldest slots p rest
    | some e =>
      if p i e then
        match oldest slots p rest with
        | some (j, n) => if n < e.seq then some (j, n) else some (i, e.seq)
        | none => some (i, e.seq)
      else oldest slots p rest

/-- A displacement candidate of domain d (R90). -/
def displaceable (d : Domain) (i : Fin 128) (e : Entry) : Bool :=
  decide (i.val < Config.generalSize) && e.domain == d && e.state == .clearedUnack
    && e.executed == .notice && !e.latching

/-- A creation that displaces the entry at index i (R91). -/
def Work.displace (w : Work) (r : Raise) (i : Fin 128) : Work :=
  { (w.retire i).create r i with space := true }

/-- A creation past the sequence check: an entry is found for it by R89, or it is refused. -/
def Work.createInRoom (w : Work) (r : Raise) : Work × Raised :=
  let d := (w.group r.key.group).domain
  if r.key = tableFullKey .unit then (w.create r (tableFullIndex .unit), .created)
  else if r.key = tableFullKey .field then (w.create r (tableFullIndex .field), .created)
  else
    match (if 0 < usableFree w.slots w.reserve d then lowestFree w.slots else none) with
    | some i => (w.create r i, .created)
    | none =>
      match oldest w.slots (displaceable d) indices with
      | some (i, _) => (w.displace r i, .created)
      | none => (w.refuseFull d (anchorOf w.locs r.key.path), .full)

/-- A raise by R17 from step 5. -/
def Work.raise (w : Work) (r : Raise) : Work × Raised :=
  match findKey w.slots r.key with
  | some i =>
    match w.entry i with
    | some e => w.raiseStanding r i e
    | none => (w, .repeated)
  | none =>
    if Config.lastSequence < w.seqNext then (w.refuseSpent, .spent) else w.createInRoom r

/-- A raise made by the part, at a path, of a part-owned group (R33). -/
def Work.raisePart (w : Work) (p : LocPath) (group code : Byte) (detail : List Byte) :
    Work × Raised :=
  w.raise ⟨⟨p, group, code⟩, detail, .part⟩

/-! ### Acknowledgement (R24) -/

/-- ACK of the standing entry e at index i (R24): ACTIVE-UNACK becomes ACTIVE-ACK, a CLEARED-UNACK
entry that is not latching is retired. -/
def Work.ackEntry (w : Work) (i : Fin 128) (e : Entry) : Work :=
  match e.state with
  | .activeUnack => w.put i { e with state := .activeAck }
  | .activeAck => w
  | .clearedUnack => if e.latching then w else w.retire i

/-! ### Handles (R6) -/

/-- The standing entry that a presented handle matches (R6). -/
def handleEntry (slots : Vector Slot 128) (index gen : Byte) : Option (Fin 128 × Entry) :=
  if h : index.toNat < 128 then
    match slots[index.toNat].entry with
    | some e => if slots[index.toNat].gen = gen then some (⟨index.toNat, h⟩, e) else none
    | none => none
  else none

/-! ### The hand-off of R16 -/

/-- The table, counter and map of a request written back, without the hand-off of counts. -/
def storeWork (s : State) (w : Work) : State :=
  { s with
    engine.slots := w.slots
    engine.seqNext := w.seqNext
    engine.seqSpent := w.seqSpent
    topo.locs := w.locs }

/-- R16, step 2: the events and the space event at the Summary Unit, with the causes they set
(R142, R143, R146). -/
def handEvents (s : State) (events : List Event) (space : Bool) : State :=
  let uc := events.foldl Summary.applyEvent (s.summary, 0)
  { s with
    summary := uc.1
    window.cause := s.window.cause ||| uc.2 ||| (if space then Cause.space else 0) }

/-- R16, steps 3 and 4: the derived counts to the window, FATAL_HELD to Release Control with the
TRIP cause (R128, R132). -/
def handCounts (s : State) : State :=
  { s with
    window.counts := Counts.of s.engine.slots
    window.cause := s.window.cause
      ||| (if s.release.trips (fatalHeld s.engine.slots) then Cause.trip else 0)
    release := s.release.handOff (fatalHeld s.engine.slots) }

/-- The end of a request (R16, steps 1 to 4). -/
def handOff (s : State) (w : Work) : State :=
  handCounts (handEvents (storeWork s w) w.events w.space)

/-! ### The grant (R14, R15) -/

/-- The source waits at the Table Engine (R12). -/
def State.waits (s : State) : Source → Bool
  | .link => !s.link.queue.isEmpty
  | .window => s.window.waiting
  | .verify => s.topo.verify.waiting

/-- The sources in the order in which the rotation comes to them after one (R14). -/
def rotationAfter : Source → List Source
  | .link => [.window, .verify, .link]
  | .window => [.verify, .link, .window]
  | .verify => [.link, .window, .verify]

/-- The Table Engine may take a request: not while a commit is worked; in a sweep, only one in each
gap (R15, R62). -/
def State.engineOpen (s : State) : Bool :=
  s.topo.state != .committing
    && (match s.engine.sweep with
        | some sw => !sw.gapTaken
        | none => true)

/-- The source that the Table Engine grants next, if it may take a request and one waits (R14). -/
def State.nextGrant (s : State) : Option Source :=
  if s.engineOpen then (rotationAfter s.engine.lastGranted).find? s.waits else none

/-- The grant of a source's request: it becomes the source granted last, and uses a sweep's gap. -/
def granted (src : Source) (s : State) : State :=
  { s with
    engine.lastGranted := src
    engine.sweep := s.engine.sweep.map fun sw => { sw with gapTaken := true } }

/-! ## The Command Window -/

/-- The rise of CSN ends a transaction and its held snapshots (R147, R188, R190). -/
def csnRise (s : State) : State :=
  { s with port := .released, window.heldSummary := none, window.heldCounts := none }

/-- The taking of a command (R192). -/
def takeCommand (code : Byte) (s : State) : State :=
  { s with
    window.cmd := code
    window.argCopy := s.window.arg
    window.result := 0
    window.resp := Vector.replicate 48 0
    window.overrun := false
    window.cmdState := .busy }

/-- A CMD write refused because the window is BUSY (R193). -/
def refuseOverrun (s : State) : State := setCause { s with window.overrun := true } Cause.overrun

/-- A command given at the rise of CSN, which ends its transaction in every case (R188, R192). None
is taken in cold reset (R186), at the end of a transaction that cold reset has cut off (R188), or
while CLK is absent (R203; log entry 5); while BUSY it is refused with OVERRUN (R193); otherwise it
is taken and handed to its owner. -/
def giveCommand (code : Byte) (owner : State → State) (s : State) : State :=
  if s.clocked = false ∨ s.port = .cut then csnRise s
  else if s.window.cmdState = .busy then refuseOverrun (csnRise s)
  else owner (takeCommand code (csnRise s))

/-- Bytes as the response area: the rest of RESP is 0 (R195). -/
def respOf (bytes : List Byte) : Vector Byte 48 :=
  ⟨⟨(bytes ++ List.replicate 48 0).take 48⟩, by simp⟩

/-- The completion of a command (R195). -/
def complete (result : Byte) (response : List Byte) (s : State) : State :=
  setCause
    { s with
      window.resp := respOf response
      window.result := result
      window.cmdState := Result.completes result }
    Cause.done

/-- A window request is presented to the Table Engine (R197). It is granted at the taking when the
engine is free and the rotation comes to the window; otherwise it waits for its grant (R14; log
entry 2). work is what the granted request does. -/
def presentRequest (engine : EngineAt) (work : State → State) (s : State) : State :=
  let s1 : State := { s with window.waiting := true }
  if engine = .free ∧ s1.nextGrant = some .window then
    work { granted .window s1 with window.waiting := false }
  else s1

/-! ## The verify window timer (R65) -/

/-- The length of the verify window in milliseconds (R99). -/
def Limits.windowLength (l : Limits) : Nat := 100 * l.windowSteps

/-- The timer runs and its elapsed time has reached VERIFY_WINDOW (R65). -/
def State.expiryDue (s : State) : Bool :=
  s.topo.verify.running
    && decide (s.limits.windowLength ≤ elapsed s.clock s.topo.verify.start)

/-- The expiry: the timer stops, the VERIFY cause is set, the expiry request is presented (R65,
R66). -/
def expire (s : State) : State :=
  setCause { s with topo.verify := { s.topo.verify with running := false, waiting := true } }
    Cause.verify

/-- The expiry, when it is due. -/
def expireIfDue (s : State) : State := if s.expiryDue then expire s else s

/-- The verify window starts with the present clock as its start (R65); a waiting expiry request is
discarded (R15). -/
def startVerify (s : State) : State := { s with topo.verify := ⟨true, s.clock, false⟩ }

/-- The verify window stops; a waiting expiry request is discarded (R61). -/
def stopVerify (s : State) : State :=
  { s with topo.verify := { s.topo.verify with running := false, waiting := false } }

/-! ## The Link Controller -/

/-- The roster record of an address. -/
def findAgent (roster : List Agent) (a : Byte) : Option Agent :=
  roster.find? (·.address == a)

/-- The roster with the record of one address changed. -/
def updateAgent (roster : List Agent) (a : Byte) (f : Agent → Agent) : List Agent :=
  roster.map fun x => if x.address == a then f x else x

/-- The record of an agent changed. -/
def withAgent (a : Byte) (f : Agent → Agent) (s : State) : State :=
  { s with link.roster := updateAgent s.link.roster a f }

/-- An entry joins the tail of the link queue, and its agent becomes pending (R111). -/
def enqueue (a : Byte) (e : LinkEntry) (s : State) : State :=
  withAgent a (fun x => { x with waiting := true })
    { s with link.queue := s.link.queue ++ [e] }

/-- The agents of the roster that the round has yet to come to (R112). -/
def agentsLeft (l : Link) : List Agent :=
  match l.position with
  | none => l.roster
  | some a => l.roster.filter fun x => decide (a.toNat < x.address.toNat)

/-- The gap after a round: POLL_GAP is read at its start (R112). -/
def startGap (s : State) : State := { s with link.phase := .gap s.limits.pollGap }

/-- The agent last come to once the round has come to every agent: the last of the roster (R112). -/
def lastAddress (roster : List Agent) : Option Byte := roster.getLast?.map (·.address)

/-- The Link Controller comes to the next agent of the round, passing over those that are pending;
where it has come to every agent, the gap begins (R112; log entry 10). -/
def comeToNext (s : State) : State :=
  match (agentsLeft s.link).find? fun x => !x.waiting with
  | some x => { s with link.phase := .calling, link.position := some x.address }
  | none => startGap { s with link.position := lastAddress s.link.roster }

/-- The exchange is over and the line is free (R105); in a running round the Link Controller comes
to the next agent (R112). -/
def endExchange (s : State) : State :=
  let s1 : State := { s with link.exchange := none, link.line := .idle }
  if s.link.phase = .polling then comeToNext s1 else s1

/-- The head of the queue answered: removed, and its agent no longer pending (R111). -/
def dequeue (a : Byte) (s : State) : State :=
  withAgent a (fun x => { x with waiting := false })
    { s with link.queue := s.link.queue.tail }

/-- The Table Engine's answer to a report entry: the verdict is stored and the pending flag cleared
(R118). -/
def answerReport (r : Report) (v : Verdict) (s : State) : State :=
  withAgent r.agent (fun x => { x with stored := (r.seq, v) }) (dequeue r.agent s)

/-- The miss count after a miss, which stops at 255 (R119). -/
def Agent.missesAfter (x : Agent) : Nat := min 255 (x.misses + 1)

/-- A miss lapses the agent: it is ONLINE and its count reaches its limit (R120). -/
def Agent.lapses (x : Agent) : Bool := x.state == .online && decide (x.limit ≤ x.missesAfter)

/-- A miss in the agent's record (R110, R119, R120). -/
def Agent.miss (x : Agent) : Agent :=
  { x with misses := x.missesAfter, state := if x.lapses then .lapsed else x.state }

/-- A miss of an agent (R119): its record; the LAPSE cause when it lapses (R120); a part entry with
the LINK raise of a bad reply, whose code is linkCode (R121), with the lapse, or with both. -/
def miss (a : Byte) (linkCode : Option Byte) (s : State) : State :=
  match findAgent s.link.roster a with
  | none => s
  | some x =>
    let s1 := withAgent a Agent.miss s
    let s2 := if x.lapses then setCause s1 Cause.lapse else s1
    if x.lapses || linkCode.isSome then enqueue a (.part a linkCode x.lapses) s2 else s2

/-- The path of an agent's home, through the home index (R122). -/
def homePath (s : State) (a : Byte) : LocPath :=
  match findAgent s.link.roster a with
  | some x =>
    match s.topo.locs[x.home]? with
    | some l => l.path
    | none => LocPath.root
  | none => LocPath.root

/-- The link source's request is granted now: it waits and the rotation comes to it. -/
def State.linkGranted (s : State) : Bool := s.live && s.nextGrant == some .link

end Sys2Proof.Machine
end

