-- ==== Sys2Proof/Machine/Clearing.lean ====
section
/-!
DEFINITION. Acknowledging, the sweep of CLEAR_DOMAIN, CLEAR_SUMMARY, the controller's own
conditions, and WARM_RESTART (10_clearing_and_restarting.md).
-/

namespace Sys2Proof.Machine

/-! ## ACK and ACK_ALL -/

/-- The result of an ACK of the entry e and its state byte after it (R172). -/
def ackAnswer (e : Entry) : Byte × Byte :=
  match e.state with
  | .activeUnack => (Result.ok, EntryState.activeAck.code)
  | .activeAck => (Result.already, EntryState.activeAck.code)
  | .clearedUnack =>
    if e.latching then (Result.latched, EntryState.clearedUnack.code) else (Result.ok, 0)

/-- ACK granted (R172). -/
def workAck (s : State) : State :=
  let index := s.window.argAt 0
  let gen := s.window.argAt 1
  if 127 < index.toNat then complete Result.badArgument [] s
  else
    match handleEntry s.engine.slots index gen with
    | none => complete Result.staleHandle [] s
    | some (i, e) =>
      complete (ackAnswer e).1 [index, gen, (ackAnswer e).2]
        (handOff s ((taking s).ackEntry i e))

/-- ACK (R172). -/
def execAck (engine : EngineAt) (s : State) : Host.Outcome State Fault Refusal :=
  .next (giveCommand 0x50 (presentRequest engine workAck) s)

/-- The domain is named in the mask of ACK_ALL: bit 0 UNIT, bit 1 FIELD (R173). -/
def maskNames (mask : Byte) : Domain → Bool
  | .unit => mask.getLsbD 0
  | .field => mask.getLsbD 1

/-- ACK_ALL at work: the table, the entries made ACTIVE-ACK, and the latching CLEARED-UNACK
entries left standing (R173). -/
structure AckAll where
  work  : Work
  acked : Nat
  left  : Nat

/-- ACK_ALL reaches index i (R173). -/
def AckAll.visit (mask : Byte) (a : AckAll) (i : Fin 128) : AckAll :=
  match a.work.entry i with
  | none => a
  | some e =>
    if maskNames mask e.domain then
      { work := a.work.ackEntry i e
        acked := if e.state = .activeUnack then a.acked + 1 else a.acked
        left := if e.state = .clearedUnack ∧ e.latching then a.left + 1 else a.left }
    else a

/-- ACK_ALL over every index in ascending order (R173). -/
def ackAll (mask : Byte) (w : Work) : AckAll := indices.foldl (AckAll.visit mask) ⟨w, 0, 0⟩

/-- The number of standing entries. -/
def standingCount (slots : Vector Slot 128) : Nat := countEntries slots fun _ => true

/-- ACK_ALL granted (R173). The entries that left the table are those retired, hysteresis
retirements included. -/
def workAckAll (s : State) : State :=
  let mask := s.window.argAt 0
  if 1 ≤ mask.toNat ∧ mask.toNat ≤ 3 then
    let a := ackAll mask (taking s)
    complete Result.ok
      [mask, byte a.acked, byte (standingCount s.engine.slots - standingCount a.work.slots),
       byte a.left]
      (handOff s a.work)
  else complete Result.badArgument [] s

/-- ACK_ALL (R173). -/
def execAckAll (engine : EngineAt) (s : State) : Host.Outcome State Fault Refusal :=
  .next (giveCommand 0x51 (presentRequest engine workAckAll) s)

/-! ## CLEAR_DOMAIN and its sweep -/

/-- CLEAR_DOMAIN at the window (R175): an undefined domain is answered at once; otherwise the
request is presented, and its grant is SWEEP_START. -/
def workClearDomain (s : State) : State :=
  match Domain.ofByte (s.window.argAt 0) with
  | none => complete Result.badArgument [] s
  | some _ => { s with window.waiting := true }

/-- CLEAR_DOMAIN (R175). -/
def execClearDomain (s : State) : Host.Outcome State Fault Refusal :=
  .next (giveCommand 0x52 workClearDomain s)

/-- The start of a sweep of d marks the entry (R176). -/
def sweepTakes (d : Domain) (bound : Nat) (e : Entry) : Bool :=
  e.domain == d && !e.latching && decide (e.seq ≤ bound)

/-- The slot with its entry's sweep mark set where the sweep takes it (R176). -/
def Slot.markFor (d : Domain) (bound : Nat) (sl : Slot) : Slot :=
  { sl with
    entry := sl.entry.map fun e => if sweepTakes d bound e then { e with sweepMark := true } else e }

/-- The start of the sweep of a domain (R176). -/
def startSweepOf (d : Domain) (s : State) : State :=
  let bound := s.engine.seqNext - 1
  let w := taking s
  let s1 := handOff s
    { w with slots := w.slots.map (Slot.markFor d bound), locs := clearMarks w.locs d }
  { s1 with
    summary := s1.summary.setNewFlag d false
    engine.sweep := some
      { domain := d, bound := bound, next := 0,
        marked := countEntries s.engine.slots (sweepTakes d bound), retired := 0,
        gapTaken := false } }

/-- CLEAR_DOMAIN granted (R176). -/
def workSweepStart (s : State) : State :=
  match Domain.ofByte (s.window.argAt 0) with
  | none => s
  | some d => startSweepOf d s

/-- CLEAR_DOMAIN's request waits and is the next to be granted (R14, R175). -/
def State.sweepGranted (s : State) : Bool :=
  s.live && s.window.waiting && s.window.cmd == 0x52 && s.nextGrant == some .window

/-- SWEEP_START (R176). -/
def execSweepStart (s : State) : Host.Outcome State Fault Refusal :=
  .next
    (if s.sweepGranted then workSweepStart { granted .window s with window.waiting := false }
     else s)

/-- A sweep step reaches index i (R177). -/
def Work.sweepVisit (w : Work) (i : Fin 128) : Work :=
  match w.entry i with
  | some e => if e.sweepMark then w.retire i else w
  | none => w

/-- The indices of step k, in ascending order (R177). -/
def stepIndices (k : Nat) : List (Fin 128) :=
  (indices.drop (Config.sweepWidth * k)).take Config.sweepWidth

/-- The number of entries that carry the sweep mark. -/
def markedCount (slots : Vector Slot 128) : Nat := countEntries slots (·.sweepMark)

/-- The sweep state after a step that leaves the table at slots: the marked entries gone are those
the step retired (R177, R179; log entry 11). The next gap begins. -/
def Sweep.advance (sw : Sweep) (before slots : Vector Slot 128) : Sweep :=
  { sw with
    next := sw.next + 1, retired := sw.retired + (markedCount before - markedCount slots),
    gapTaken := false }

/-- CLEAR_DOMAIN's response (R179). -/
def sweepResponse (sw : Sweep) (slots : Vector Slot 128) : List Byte :=
  sw.domain.code :: be32 sw.bound
    ++ [byte sw.marked, byte sw.retired, byte (standing slots sw.domain)]

/-- The end of the sweep: the window becomes the source granted last (R15), CLEAR_DOMAIN completes
(R179). -/
def endSweep (sw : Sweep) (s : State) : State :=
  complete Result.ok (sweepResponse sw s.engine.slots)
    { s with engine.sweep := none, engine.lastGranted := .window }

/-- The next step of the sweep (R177). -/
def workSweepStep (sw : Sweep) (s : State) : State :=
  let w := (stepIndices sw.next).foldl Work.sweepVisit (taking s)
  let sw1 := sw.advance s.engine.slots w.slots
  let s1 := handOff s w
  if 16 ≤ sw1.next then endSweep sw1 s1 else { s1 with engine.sweep := some sw1 }

/-- The next step follows: the gap's one request has been taken, or neither the link nor the verify
timer waits (R15, R178; log entry 21). -/
def State.sweepStepDue (s : State) (sw : Sweep) : Bool :=
  s.live && (sw.gapTaken || !(s.waits .link || s.waits .verify))

/-- SWEEP_STEP (R177). -/
def execSweepStep (s : State) : Host.Outcome State Fault Refusal :=
  .next
    (match s.engine.sweep with
     | none => s
     | some sw => if s.sweepStepDue sw then workSweepStep sw s else s)

/-! ## CLEAR_SUMMARY -/

/-- The mask argument of CLEAR_SUMMARY (R180, R198). -/
def maskArgument (w : Window) : BitVec 16 := BitVec.ofNat 16 (num16 (w.argAt 0) (w.argAt 1))

/-- CLEAR_SUMMARY at the Summary Unit (R180). -/
def workClearSummary (s : State) : State :=
  let word := s.summary.word &&& ~~~(maskArgument s.window)
  complete Result.ok (be16 word.toNat) { s with summary.word := word }

/-- CLEAR_SUMMARY (R180). -/
def execClearSummary (s : State) : Host.Outcome State Fault Refusal :=
  .next (giveCommand 0x53 workClearSummary s)

/-! ## RAISE_APP and RESTORE_APP -/

/-- The key the arguments of RAISE_APP and RESTORE_APP give (R198). -/
def Window.appKey (w : Window) : Key := ⟨w.argPath 0, w.argAt 4, w.argAt 5⟩

/-- The controller may name the group (R34). -/
def appGroup (g : Byte) : Bool := decide (8 ≤ g.toNat) && decide (g.toNat ≤ 31)

/-- The checks of RAISE_APP and RESTORE_APP (R181, R182): path, group, for a raise the detail
length, and the group enabled. -/
def appCheck (s : State) (lengthOk : Bool) : Byte :=
  if !(s.window.argPath 0).wellFormed || !appGroup (s.window.argAt 4) || !lengthOk then
    Result.badArgument
  else if (groupOf s.groups (s.window.argAt 4)).enabled then Result.ok
  else Result.groupDisabled

/-- The detail of RAISE_APP (R198). -/
def Window.appDetail (w : Window) : List Byte :=
  (List.range (w.argAt 6).toNat).map fun k => w.argAt (7 + k)

/-- The raise of RAISE_APP, origin CONTROLLER (R181). -/
def Window.appRaise (w : Window) : Raise := ⟨w.appKey, w.appDetail, .controller⟩

/-- The result of RAISE_APP by the outcome of its raise (R181). -/
def Raised.result : Raised → Byte
  | .full => Result.full
  | .spent => Result.spent
  | .created => Result.ok
  | .repeated => Result.ok
  | .reactivated => Result.ok
  | .momentary => Result.ok

/-- The entry view of the standing entry with a key. -/
def keyView (slots : Vector Slot 128) (k : Key) : List Byte :=
  match findKey slots k with
  | none => []
  | some i =>
    match slots[i].entry with
    | some e => e.view i.val slots[i].gen
    | none => []

/-- RAISE_APP granted (R181). -/
def workRaiseApp (s : State) : State :=
  let check := appCheck s (decide ((s.window.argAt 6).toNat ≤ 20))
  if check = Result.ok then
    let r := (taking s).raise s.window.appRaise
    complete r.2.result
      (if r.2.result = Result.ok then keyView r.1.slots s.window.appKey else []) (handOff s r.1)
  else complete check [] s

/-- RAISE_APP (R181). -/
def execRaiseApp (engine : EngineAt) (s : State) : Host.Outcome State Fault Refusal :=
  .next (giveCommand 0x54 (presentRequest engine workRaiseApp) s)

/-- The state byte of RESTORE_APP's response for the entry e it found (R182). -/
def restoreState (e : Entry) : Byte :=
  if e.latching then e.state.code
  else if e.state = .activeAck then 0
  else EntryState.clearedUnack.code

/-- RESTORE_APP's response: the handle of the entry found and its state (R182). -/
def restoreResponse (slots : Vector Slot 128) (k : Key) : List Byte :=
  match findKey slots k with
  | none => []
  | some i =>
    match slots[i].entry with
    | some e => [byte i.val, slots[i].gen, restoreState e]
    | none => []

/-- The result of RESTORE_APP by the outcome of its restore (R182). -/
def Restored.result : Restored → Byte
  | .nothing => Result.nothingStanding
  | .latched => Result.latched
  | .restored => Result.ok

/-- RESTORE_APP granted (R182). -/
def workRestoreApp (s : State) : State :=
  let check := appCheck s true
  if check = Result.ok then
    let r := (taking s).restore s.window.appKey
    complete r.2.result (restoreResponse s.engine.slots s.window.appKey) (handOff s r.1)
  else complete check [] s

/-- RESTORE_APP (R182). -/
def execRestoreApp (engine : EngineAt) (s : State) : Host.Outcome State Fault Refusal :=
  .next (giveCommand 0x55 (presentRequest engine workRestoreApp) s)

/-! ## WARM_RESTART -/

/-- The live fields of a roster record reset (R124). -/
def Agent.restart (x : Agent) : Agent :=
  { x with state := .offline, misses := 0, lastSeq := 0, stored := (0, .none), waiting := false }

/-- The Link Controller after WARM_RESTART (R124): a new round due when the exchange on the line,
which goes on, is over, where it polls at all (R112). -/
def Link.restart (l : Link) (loaded : Bool) : Link :=
  { roster := l.roster.map Agent.restart, queue := [],
    phase := if loaded && !l.roster.isEmpty then .dueAfter else .stopped, position := none,
    exchange := l.exchange, line := l.line }

/-- The retirement of every standing entry that is not latching, in ascending index order (R29). -/
def Work.retireUnlatched (w : Work) : Work :=
  indices.foldl
    (fun w i =>
      match w.entry i with
      | some e => if e.latching then w else w.retire i
      | none => w) w

/-- The slot with its entry's sweep mark cleared (R29). -/
def Slot.unmark (sl : Slot) : Slot :=
  { sl with entry := sl.entry.map fun e => { e with sweepMark := false } }

/-- The record after WARM_RESTART: presence UNVERIFIED but at the root, both marks clear (R68). -/
def Location.restart (i : Nat) (l : Location) : Location :=
  { l with presence := if i = 0 then l.presence else .unverified, uMark := false, fMark := false }

/-- The table and map part of WARM_RESTART (R29, R68, R184). -/
def Work.warmRestart (w : Work) : Work :=
  let w1 := w.retireUnlatched
  { w1 with slots := w1.slots.map Slot.unmark, locs := w1.locs.mapIdx Location.restart }

/-- The verify window at WARM_RESTART: a waiting expiry request is discarded, and the window is
started if the topology is LOADED (R15, R65, R68). -/
def restartVerify (s : State) : State :=
  if s.topo.state = .loaded then startVerify s
  else { s with topo.verify.waiting := false }

/-- What WARM_RESTART does to the owners beside the table, before the hand-off of counts (R139,
R124, R29, R68, R144, R145). An expiry that is due already comes before it (log entry 30). -/
def restartOwners (s : State) : State :=
  let s1 := restartVerify (expireIfDue s)
  { s1 with
    release := s1.release.hold
    link := s1.link.restart (s1.topo.state == .loaded)
    engine.cursors := Vector.replicate 4 Cursor.closed
    summary := ⟨0, false, false⟩ }

/-- WARM_RESTART's response, as the end of its request leaves the part (R185). -/
def restartResponse (retired : Nat) (s : State) : List Byte :=
  [byte retired, byte (countEntries s.engine.slots (·.latching)),
   byte (fatalHeld s.engine.slots), s.release.state.code, s.topo.state.code]

/-- WARM_RESTART granted (R184). The window stays BUSY for the completion (R185; log entry 14). -/
def workWarmRestart (s : State) : State :=
  let w := (taking s).warmRestart
  let s1 := handOff (restartOwners s) w
  let retired := standingCount s.engine.slots - standingCount w.slots
  { s1 with window.restart := some ⟨restartResponse retired s1, false⟩ }

/-- WARM_RESTART (R184). -/
def execWarmRestart (engine : EngineAt) (s : State) : Host.Outcome State Fault Refusal :=
  .next (giveCommand 0x60 (presentRequest engine workWarmRestart) s)

/-- The clear of every cause, taken on its own (R195). -/
def clearCauses (r : Restart) (s : State) : State :=
  { s with window.cause := 0, window.restart := some { r with cleared := true } }

/-- The completion of WARM_RESTART (R185), after the clear if it has not been taken yet. -/
def finishRestart (r : Restart) (s : State) : State :=
  let s1 := if r.cleared then s else clearCauses r s
  complete Result.ok r.response { s1 with window.restart := none }

/-- WARM_RESTART_COMPLETE (R185). -/
def execWarmRestartComplete (part : RestartEnd) (s : State) :
    Host.Outcome State Fault Refusal :=
  .next
    (match s.window.restart, s.live, part with
     | some r, true, .clear => if r.cleared then s else clearCauses r s
     | some r, true, .finish => finishRestart r s
     | _, _, _ => s)

end Sys2Proof.Machine
end

