-- ==== Sys2Proof/Machine/Reading.lean ====
section
/-!
DEFINITION. The reads of the table (09_reading_the_table.md): LOOKUP, GET, the cursors and
AGENT_INFO. A read changes no entry, record, count, mark or flag, so it makes no hand-off: that
would repeat the counts already shown (R155; log entry 28).
-/

namespace Sys2Proof.Machine

/-! ## LOOKUP -/

/-- The record at an index; the root's initial record above the map (log entry 27). -/
def locationAt (locs : List Location) (i : Nat) : Location := (locs[i]?).getD Location.root

/-- The exact count: active entries whose key path equals the path (R157, item 8). -/
def exactCount (slots : Vector Slot 128) (p : LocPath) : Nat :=
  countEntries slots fun e => e.state.active && e.key.path == p

/-- The flags byte of LOOKUP for a path whose anchor is record a (R157, item 1). -/
def lookupFlags (locs : List Location) (p : LocPath) (a : Nat) : Byte :=
  bit (configured locs p).isSome ||| (bit (pathCut locs p) <<< 1) ||| (bit (cut locs a) <<< 2)
    ||| (bit (locationAt locs a).uMark <<< 3) ||| (bit (locationAt locs a).fMark <<< 4)
    ||| (bit (faultOf locs a (locationAt locs a)) <<< 5)

/-- LOOKUP's response (R157). -/
def lookupResponse (slots : Vector Slot 128) (locs : List Location) (p : LocPath) : List Byte :=
  let a := anchorOf locs p
  let l := locationAt locs a
  lookupFlags locs p a :: l.path.bytes ++ be16 a
    ++ [l.level.code, l.presence.code, byte l.own, byte l.below, byte (exactCount slots p), l.kind,
        l.agent]

/-- LOOKUP granted (R156). -/
def workLookup (s : State) : State :=
  let p := s.window.argPath 0
  if p.wellFormed then
    complete (if (configured s.topo.locs p).isSome then Result.ok else Result.notConfigured)
      (lookupResponse s.engine.slots s.topo.locs p) s
  else complete Result.badArgument [] s

/-- LOOKUP (R156). -/
def execLookup (engine : EngineAt) (s : State) : Host.Outcome State Fault Refusal :=
  .next (giveCommand 0x40 (presentRequest engine workLookup) s)

/-! ## GET -/

/-- GET granted (R161). -/
def workGet (s : State) : State :=
  if 127 < (s.window.argAt 0).toNat then complete Result.badArgument [] s
  else
    match handleEntry s.engine.slots (s.window.argAt 0) (s.window.argAt 1) with
    | some (i, e) => complete Result.ok (e.view i.val (s.window.argAt 1)) s
    | none => complete Result.staleHandle [] s

/-- GET (R161). -/
def execGet (engine : EngineAt) (s : State) : Host.Outcome State Fault Refusal :=
  .next (giveCommand 0x41 (presentRequest engine workGet) s)

/-! ## Cursors -/

/-- The bit of a domain in a domain mask (R162). -/
def Domain.maskBit : Domain → Byte
  | .unit => 1
  | .field => 2

/-- The bit of an entry state in a state mask (R162). -/
def EntryState.maskBit : EntryState → Byte
  | .activeUnack => 1
  | .activeAck => 2
  | .clearedUnack => 4

/-- A standing entry matches the cursor's filter (R165). -/
def Cursor.matches (c : Cursor) (e : Entry) : Bool :=
  (c.domainMask &&& e.domain.maskBit) != 0 && (c.stateMask &&& e.state.maskBit) != 0
    && decide (c.minimum.rank ≤ e.executed.rank)
    && (match c.subtree with
        | some q => q.covers e.key.path
        | none => true)

/-- The entry is one the cursor has yet to come to: above its last, at most its bound (R166). -/
def Cursor.ahead (c : Cursor) (e : Entry) : Bool :=
  c.matches e && decide (c.last < e.seq) && decide (e.seq ≤ c.bound)

/-- The cursor of a number. -/
def cursorAt (cursors : Vector Cursor 4) (n : Byte) : Cursor :=
  cursors.toList.getD n.toNat Cursor.closed

/-- The cursor of a number replaced. -/
def setCursor (n : Byte) (c : Cursor) (s : State) : State :=
  { s with engine.cursors := s.engine.cursors.setIfInBounds n.toNat c }

/-- The subtree the arguments of LIST_OPEN give, when the flag and the path pass checks 3 and 4
(R163). -/
def Window.subtreeArgument (w : Window) : Option (Option LocPath) :=
  if w.argAt 4 = 0 then some none
  else if w.argAt 4 = 1 ∧ (w.argPath 5).wellFormed then some (some (w.argPath 5))
  else none

/-- The cursor that LIST_OPEN opens, when its argument passes the checks (R163, R164). -/
def openedCursor (w : Window) (seqNext : Nat) : Option Cursor := do
  let minimum ← Action.ofByte (w.argAt 3)
  let subtree ← w.subtreeArgument
  if (w.argAt 0).toNat ≤ 3 ∧ 1 ≤ (w.argAt 1).toNat ∧ (w.argAt 1).toNat ≤ 3
      ∧ 1 ≤ (w.argAt 2).toNat ∧ (w.argAt 2).toNat ≤ 7 then
    some { state := .opened, domainMask := w.argAt 1, stateMask := w.argAt 2, minimum, subtree,
           bound := seqNext - 1, last := 0 }
  else none

/-- LIST_OPEN's response (R164). -/
def openResponse (n : Byte) (c : Cursor) (slots : Vector Slot 128) : List Byte :=
  n :: be32 c.bound ++ [byte (countEntries slots fun e => c.matches e && decide (e.seq ≤ c.bound))]

/-- LIST_OPEN granted (R163, R164). -/
def workListOpen (s : State) : State :=
  match openedCursor s.window s.engine.seqNext with
  | some c =>
    complete Result.ok (openResponse (s.window.argAt 0) c s.engine.slots)
      (setCursor (s.window.argAt 0) c s)
  | none => complete Result.badArgument [] s

/-- LIST_OPEN (R163). -/
def execListOpen (engine : EngineAt) (s : State) : Host.Outcome State Fault Refusal :=
  .next (giveCommand 0x42 (presentRequest engine workListOpen) s)

/-- LIST_NEXT of an OPEN cursor (R166): the match of lowest sequence, or END. -/
def nextMatch (n : Byte) (c : Cursor) (s : State) : State :=
  match oldest s.engine.slots (fun _ e => c.ahead e) indices with
  | some (i, seq) =>
    match s.engine.slots[i].entry with
    | some e =>
      complete Result.ok (e.view i.val s.engine.slots[i].gen) (setCursor n { c with last := seq } s)
    | none => s
  | none => complete Result.listEnd [] (setCursor n { c with state := .exhausted } s)

/-- LIST_NEXT granted (R166). -/
def workListNext (s : State) : State :=
  let n := s.window.argAt 0
  if 3 < n.toNat then complete Result.badArgument [] s
  else
    match (cursorAt s.engine.cursors n).state with
    | .closed => complete Result.cursorClosed [] s
    | .opened => nextMatch n (cursorAt s.engine.cursors n) s
    | .exhausted => complete Result.listEnd [] s

/-- LIST_NEXT (R166). -/
def execListNext (engine : EngineAt) (s : State) : Host.Outcome State Fault Refusal :=
  .next (giveCommand 0x43 (presentRequest engine workListNext) s)

/-- LIST_CLOSE granted (R168). -/
def workListClose (s : State) : State :=
  let n := s.window.argAt 0
  if 3 < n.toNat then complete Result.badArgument [] s
  else complete Result.ok [n] (setCursor n Cursor.closed s)

/-- LIST_CLOSE (R168). -/
def execListClose (engine : EngineAt) (s : State) : Host.Outcome State Fault Refusal :=
  .next (giveCommand 0x44 (presentRequest engine workListClose) s)

/-! ## AGENT_INFO -/

/-- The lowest roster address above an address, or 0 (R170, item 2); the roster is in ascending
order (R109). -/
def nextAddress (roster : List Agent) (a : Byte) : Byte :=
  match roster.find? fun x => decide (a.toNat < x.address.toNat) with
  | some x => x.address
  | none => 0

/-- Items 3 to 12 of AGENT_INFO's response (R170). -/
def Agent.info (x : Agent) (home : LocPath) : List Byte :=
  x.address :: be16 x.home ++ home.bytes
    ++ [x.state.code, byte x.misses, byte x.limit, x.lastSeq, x.stored.1, x.stored.2.code,
        bit x.waiting]

/-- AGENT_INFO at the Link Controller (R170). -/
def workAgentInfo (s : State) : State :=
  let a := s.window.argAt 0
  let head := [byte s.link.roster.length, nextAddress s.link.roster a]
  if 62 < a.toNat then complete Result.badArgument [] s
  else
    match findAgent s.link.roster a with
    | none => complete Result.notFound head s
    | some x => complete Result.ok (head ++ x.info (homePath s a)) s

/-- AGENT_INFO (R170). -/
def execAgentInfo (s : State) : Host.Outcome State Fault Refusal :=
  .next (giveCommand 0x45 workAgentInfo s)

end Sys2Proof.Machine
end

