-- ==== Sys2Proof/Machine/Settings.lean ====
section
/-!
DEFINITION. The configuration commands: GROUP_SET (R43, R44), SET_LIMITS (R99, R100) and SET_STAMP
(R201).
-/

namespace Sys2Proof.Machine

/-! ## GROUP-SET -/

/-- The group number is 1 to 31 (R43, check 2). -/
def groupNumberOk (g : Byte) : Bool := decide (1 ≤ g.toNat) && decide (g.toNat ≤ 31)

/-- For groups 1 to 8 each field fixed by R32 equals the group's value (R43, check 4): the burst
fields but for group 7, the configured action where the group is not configurable. -/
def fixedFieldsAgree (g : Byte) (held new : GroupRecord) : Bool :=
  decide (8 < g.toNat)
    || (new.enabled == held.enabled && new.domain == held.domain && new.logged == held.logged
        && new.configurable == held.configurable && new.latching == held.latching
        && new.momentary == held.momentary
        && (g == 7 || (new.burstThreshold == held.burstThreshold
            && new.burstWindow == held.burstWindow))
        && (held.configurable || new.configured == held.configured))

/-- The response of GROUP-SET: the record, or zeros when the number is out of range (R44). -/
def groupResponse (g : Byte) (r : GroupRecord) : List Byte :=
  if groupNumberOk g then r.bytes g else []

/-- GROUP-SET at its owner (R43, R44). -/
def workGroupSet (s : State) : State :=
  let g := s.window.argAt 0
  let held := groupOf s.groups g
  if s.release.mode ≠ .hold then complete Result.wrongMode (groupResponse g held) s
  else if !groupNumberOk g then complete Result.badArgument [] s
  else
    match s.window.groupArgument with
    | none => complete Result.badArgument (held.bytes g) s
    | some new =>
      if fixedFieldsAgree g held new then
        complete Result.ok (new.bytes g)
          { s with groups := s.groups.setIfInBounds (g.toNat - 1) new }
      else complete Result.badArgument (held.bytes g) s

/-- GROUP_SET (R43). -/
def execGroupSet (s : State) : Host.Outcome State Fault Refusal :=
  .next (giveCommand 0x22 workGroupSet s)

/-! ## SET-LIMITS -/

/-- The result of SET-LIMITS: the first check of R99 that fails, or OK. -/
def limitsCheck (s : State) : Byte :=
  if s.release.mode ≠ .hold then Result.wrongMode
  else if 32 < (s.window.argAt 0).toNat ∨ s.window.argAt 1 = 0 ∨ 100 < (s.window.argAt 2).toNat
  then Result.badArgument
  else if Config.generalSize - (s.window.argAt 0).toNat < standing s.engine.slots .field
  then Result.limitConflict
  else Result.ok

/-- The three limits of the argument (R198). -/
def limitsArgument (w : Window) : Limits :=
  ⟨(w.argAt 0).toNat, (w.argAt 1).toNat, (w.argAt 2).toNat⟩

/-- The response of SET-LIMITS: the limits as they stand and the space picture (R100, R199). -/
def limitsResponse (s : State) : List Byte :=
  [byte s.limits.reserve, byte s.limits.windowSteps, byte s.limits.pollGap,
   byte (freeCount s.engine.slots), byte (usableFree s.engine.slots s.limits.reserve .unit),
   byte (usableFree s.engine.slots s.limits.reserve .field),
   byte (standing s.engine.slots .field)]

/-- The limits written in one step; where UNIT_RESERVE has changed, the hysteresis check for FIELD
follows (R100). -/
def writeLimits (l : Limits) (s : State) : State :=
  let w := taking { s with limits := l }
  handOff { s with limits := l } (if l.reserve = s.limits.reserve then w else w.hysteresisOf .field)

/-- SET-LIMITS granted (R99, R100). An expiry that the old length has made due comes first, by the
model's choice (log entry 30), and a running verify window whose elapsed time already reaches the
new length expires at once (R65; log entry 8). -/
def workSetLimits (s : State) : State :=
  if limitsCheck s = Result.ok then
    let s1 := writeLimits (limitsArgument s.window) (expireIfDue s)
    expireIfDue (complete Result.ok (limitsResponse s1) s1)
  else complete (limitsCheck s) (limitsResponse s) s

/-- SET_LIMITS (R99). -/
def execSetLimits (engine : EngineAt) (s : State) : Host.Outcome State Fault Refusal :=
  .next (giveCommand 0x23 (presentRequest engine workSetLimits) s)

/-! ## SET-STAMP -/

/-- The clock value of the argument (R198). -/
def stampArgument (w : Window) : Stamp :=
  BitVec.ofNat 32 (num32 (w.argAt 0) (w.argAt 1) (w.argAt 2) (w.argAt 3))

/-- SET-STAMP at its owner (R201). An expiry that is due already comes before the load, which does
not withdraw it: the order within the millisecond is the model's choice (log entry 30). A load that
makes a running verify window's elapsed time reach its length makes it expire at once (R65; log
entry 8). -/
def workSetStamp (s : State) : State :=
  expireIfDue
    (complete Result.ok (be32 (stampArgument s.window).toNat)
      { expireIfDue s with clock := stampArgument s.window })

/-- SET_STAMP (R201). -/
def execSetStamp (s : State) : Host.Outcome State Fault Refusal :=
  .next (giveCommand 0x24 workSetStamp s)

end Sys2Proof.Machine
end

