-- ==== Sys2Proof/Machine/Topo.lean ====
section
/-!
DEFINITION. The topology commands: TOPO_BEGIN, TOPO_PUT, TOPO_COMMIT and the end of a commit
(03_locations_and_the_topology_map.md, R57 to R64).
-/

namespace Sys2Proof.Machine

/-! ## Staging -/

/-- The staging agent count (R57, R59). -/
def stagedAgents (staged : List Staged) : Nat := staged.countP (·.agent != 0)

/-- The staging index of a path. -/
def stagedIndex (staged : List Staged) (p : LocPath) : Option Nat :=
  staged.findIdx? (·.path == p)

/-- TOPO-BEGIN at its owner (R57). -/
def workTopoBegin (s : State) : State :=
  complete Result.ok (be16 1 ++ [0]) { s with topo.staged := [Staged.root] }

/-- TOPO_BEGIN (R57). -/
def execTopoBegin (s : State) : Host.Outcome State Fault Refusal :=
  .next (giveCommand 0x10 workTopoBegin s)

/-- TOPO-PUT, check 1: the forms and ranges of the argument (R58). -/
def putFormOk (w : Window) : Bool :=
  (w.argPath 0).wellFormed && !(w.argPath 0).hasChannel
    && Level.ofByte (w.argAt 4) == some (w.argPath 0).level
    && decide ((w.argAt 6).toNat ≤ 62) && decide ((w.argAt 7).toNat ≤ 15)

/-- TOPO-PUT, checks 5 and 6, for an agent address other than 0 at a level (R58). -/
def putAgentCheck (staged : List Staged) (agent : Byte) (level : Level) : Byte × Nat :=
  match staged.findIdx? (·.agent == agent) with
  | some i => (Result.agentClash, i)
  | none =>
    if Config.agentCapacity ≤ stagedAgents staged then (Result.agentLimit, 0)
    else if level = .station ∨ level = .bay then (Result.ok, staged.length)
    else (Result.badArgument, 0)

/-- The answer to a TOPO-PUT: the result of the first check that fails, or OK, with the staging
index concerned (R58, R59). -/
def putCheck (w : Window) (staged : List Staged) : Byte × Nat :=
  if putFormOk w then
    match stagedIndex staged (w.argPath 0) with
    | some i => (Result.duplicatePath, i)
    | none =>
      match stagedIndex staged (w.argPath 0).parent with
      | none => (Result.noParent, 0)
      | some _ =>
        if Config.stageCapacity ≤ staged.length then (Result.capacity, 0)
        else if w.argAt 6 = 0 then (Result.ok, staged.length)
        else putAgentCheck staged (w.argAt 6) (w.argPath 0).level
  else (Result.badArgument, 0)

/-- The record that TOPO-PUT appends: a miss limit of 0 stands for 3 (R58, R59). -/
def putRecord (w : Window) (staged : List Staged) : Staged :=
  { path := w.argPath 0, level := (w.argPath 0).level,
    parent := (stagedIndex staged (w.argPath 0).parent).getD 0, kind := w.argAt 5,
    agent := w.argAt 6, limit := if w.argAt 7 = 0 then 3 else (w.argAt 7).toNat }

/-- TOPO-PUT's response: the index concerned and the staging counts after the command (R59). -/
def putResponse (index : Nat) (staged : List Staged) : List Byte :=
  be16 index ++ be16 staged.length ++ [byte (stagedAgents staged)]

/-- TOPO-PUT at its owner (R58, R59). -/
def workTopoPut (s : State) : State :=
  let answer := putCheck s.window s.topo.staged
  let staged :=
    if answer.1 = Result.ok then s.topo.staged ++ [putRecord s.window s.topo.staged]
    else s.topo.staged
  complete answer.1 (putResponse answer.2 staged) { s with topo.staged := staged }

/-- TOPO_PUT (R58). -/
def execTopoPut (s : State) : Host.Outcome State Fault Refusal :=
  .next (giveCommand 0x11 workTopoPut s)

/-! ## Commit -/

/-- The retirement of every standing FIELD entry, in ascending index order (R62, step 1). -/
def Work.retireField (w : Work) : Work :=
  indices.foldl
    (fun w i =>
      match w.entry i with
      | some e => if e.domain = .field then w.retire i else w
      | none => w) w

/-- A kept entry moved to the root, its sweep mark cleared (R62, steps 2 and 4). -/
def Slot.toRoot (sl : Slot) : Slot :=
  { sl with entry := sl.entry.map fun e => { e with anchor := 0, sweepMark := false } }

/-- The active record that a staged record becomes: UNVERIFIED but for the root, counts 0, marks
clear (R63). -/
def Staged.install (x : Staged) (presence : Presence) (own : Nat) : Location :=
  { path := x.path, level := x.level, parent := x.parent, kind := x.kind, agent := x.agent,
    limit := x.limit, presence := presence, own := own, below := 0, uMark := false,
    fMark := false }

/-- The staging area installed as the active map; ACTIVE_OWN of the root is the number of active
entries kept (R63). -/
def installMap (staged : List Staged) (active : Nat) : List Location :=
  match staged with
  | [] => []
  | x :: rest => x.install .present active :: rest.map fun y => y.install .unverified 0

/-- The exchange on the line at the start of COMMITTING: its reply is judged for REFUSED_BUSY alone;
one already dropped stays so (R123). -/
def Exchange.atCommit (x : Exchange) : Exchange :=
  { x with fate := if x.fate = .live then .busyOnly else x.fate }

/-- The Link Controller at the start of COMMITTING: no further POLL, the queue emptied, every
pending flag cleared, the rotation at the start of a round; the line goes on (R112, R123). -/
def Link.atCommit (l : Link) : Link :=
  { roster := l.roster.map fun a => { a with waiting := false }, queue := [],
    phase := .stopped, position := none, exchange := l.exchange.map Exchange.atCommit,
    line := l.line }

/-- A commit that passes its checks (R61 to R63), from entry to COMMITTING to the installed map.
The derived counts and FATAL_HELD are handed out at its end (R64). An expiry that is due already
comes before it: its request is discarded, its cause stays (R61, R66; log entry 30). -/
def commitWork (s : State) : State :=
  let w := (taking s).retireField
  let slots := w.slots.map Slot.toRoot
  let s1 := storeWork (stopVerify (expireIfDue s)) { w with slots := slots }
  { s1 with
    engine.cursors := Vector.replicate 4 Cursor.closed
    topo.state := .committing
    topo.locs := installMap s.topo.staged (countEntries slots (·.state.active))
    topo.staged := [Staged.root]
    topo.commitRetired := standing s.engine.slots .field
    link := s.link.atCommit }

/-- TOPO-COMMIT granted: the checks of R60, then the commit. -/
def workTopoCommit (s : State) : State :=
  if s.release.mode ≠ .hold then complete Result.wrongMode [] s
  else if 0 < countEntries s.engine.slots (fun e => e.domain == .field && e.latching) then
    complete Result.latchedPresent [] s
  else commitWork s

/-- TOPO_COMMIT (R60). -/
def execTopoCommit (engine : EngineAt) (s : State) : Host.Outcome State Fault Refusal :=
  .next (giveCommand 0x12 (presentRequest engine workTopoCommit) s)

/-- The roster record of the active record l at index i (R64, R109). -/
def rosterRecord (i : Nat) (l : Location) : Agent :=
  { address := l.agent, home := i, state := .offline, misses := 0, limit := l.limit,
    lastSeq := 0, stored := (0, .none), waiting := false }

/-- A record put into a roster in ascending address order. -/
def insertAgent (a : Agent) : List Agent → List Agent
  | [] => [a]
  | b :: rest => if a.address.toNat < b.address.toNat then a :: b :: rest
    else b :: insertAgent a rest

/-- The roster of a map, whose first record has index i: one record for each location that carries
an agent address, in ascending address order (R64, R109). -/
def rosterFrom (i : Nat) : List Location → List Agent
  | [] => []
  | l :: rest =>
    if l.agent = 0 then rosterFrom (i + 1) rest
    else insertAgent (rosterRecord i l) (rosterFrom (i + 1) rest)

/-- The Link Controller after a commit: the rebuilt roster, a round due with no gap before it; the
outcome of an exchange still on the line will be dropped (R64, R112, R123). -/
def Link.rebuilt (l : Link) (locs : List Location) : Link :=
  { roster := rosterFrom 0 locs, queue := [],
    phase := if (rosterFrom 0 locs).isEmpty then .stopped else .due, position := none,
    exchange := l.exchange.map fun x => { x with fate := .dropped }, line := l.line }

/-- TOPO-COMMIT's response: FIELD entries retired, active record count, agent count (R64, R199). -/
def commitResponse (s : State) : List Byte :=
  byte s.topo.commitRetired :: be16 s.topo.locs.length
    ++ [byte (rosterFrom 0 s.topo.locs).length]

/-- The end of the commit (R64): roster, verify window, LOADED, hand-off, completion. -/
def workCommitComplete (s : State) : State :=
  let s1 := startVerify { s with link := s.link.rebuilt s.topo.locs }
  complete Result.ok (commitResponse s)
    (handCounts { s1 with topo.state := .loaded, topo.commitRetired := 0 })

/-- COMMIT_COMPLETE (R64); it falls only while the state is COMMITTING (log entry 3). -/
def execCommitComplete (s : State) : Host.Outcome State Fault Refusal :=
  .next (if s.live && s.topo.state == .committing then workCommitComplete s else s)

end Sys2Proof.Machine
end

