-- ==== Sys2Proof/Machine/Grant.lean ====
section
/-!
DEFINITION. The later grant of a window request that had to wait (R14, R197).
-/

namespace Sys2Proof.Machine

/-- The work of the command whose request waits, by its code (R197). No other code presents a
request, so the last arm is not met. -/
def windowWork (code : Byte) (s : State) : State :=
  match code.toNat with
  | 0x12 => workTopoCommit s
  | 0x23 => workSetLimits s
  | 0x40 => workLookup s
  | 0x41 => workGet s
  | 0x42 => workListOpen s
  | 0x43 => workListNext s
  | 0x44 => workListClose s
  | 0x50 => workAck s
  | 0x51 => workAckAll s
  | 0x52 => workSweepStart s
  | 0x54 => workRaiseApp s
  | 0x55 => workRestoreApp s
  | 0x60 => workWarmRestart s
  | _ => s

/-- The window's request waits and is the next to be granted (R14). -/
def State.windowGranted (s : State) : Bool :=
  s.live && s.window.waiting && s.nextGrant == some .window

/-- WINDOW_REQUEST_GRANT (R14). -/
def execWindowRequestGrant (s : State) : Host.Outcome State Fault Refusal :=
  .next
    (if s.windowGranted then
      windowWork s.window.cmd { granted .window s with window.waiting := false }
     else s)

end Sys2Proof.Machine
end

