-- ==== Sys2Proof/Machine/Link.lean ====
section
/-!
DEFINITION. The report link (06_the_report_link.md): rounds, polls, and the end of an exchange.
-/

namespace Sys2Proof.Machine

/-! ## Rounds and polls -/

/-- The Link Controller polls: the topology is LOADED and the roster is not empty (R112). -/
def State.polls (s : State) : Bool := s.topo.state == .loaded && !s.link.roster.isEmpty

/-- A new round may begin: one is due at once (R112), or one is due and the exchange on the line is
over (R124), or the gap has run out (R112). -/
def Link.roundStarts (l : Link) : Bool :=
  match l.phase with
  | .due => true
  | .dueAfter => l.exchange.isNone
  | .gap left => left == 0 && l.exchange.isNone
  | .stopped => false
  | .calling => false
  | .polling => false

/-- ROUND_START (R112): the round begins at the start of the roster, at the first agent that is not
pending. -/
def execRoundStart (s : State) : Host.Outcome State Fault Refusal :=
  .next
    (if s.clocked && s.polls && s.link.roundStarts then comeToNext { s with link.position := none }
     else s)

/-- The bytes of a POLL to an agent (R106, R107, R113). -/
def pollFrame (x : Agent) : List Byte :=
  let body := [x.address, 0x01, x.stored.1, x.stored.2.code]
  (0xB4 : Byte) :: body ++ crcBytes body

/-- A POLL of the agent come to may be sent: its round runs and the line is free (R105, R112). -/
def State.pollDue (s : State) : Bool :=
  s.clocked && s.polls && s.link.phase == .calling && s.link.exchange.isNone
    && s.link.line == .idle

/-- The sending of a POLL to the agent come to begins, which raises LDE (R104, R113). -/
def sendPoll (s : State) : State :=
  match s.link.position.bind (findAgent s.link.roster) with
  | some x =>
    { s with
      link.phase := .polling
      link.exchange := some ⟨x.address, pollFrame x, .live, false⟩
      link.line := .sending }
  | none => s

/-- POLL (R113): where one is being sent, its last stop bit ends and LDE is lowered (R104);
otherwise the next one is sent when it is due (log entry 29). -/
def execPoll (s : State) : Host.Outcome State Fault Refusal :=
  .next
    (if s.clocked then
      if s.link.line = .sending then { s with link.line := .idle }
      else if s.pollDue then sendPoll s
      else s
     else s)

/-! ## Judging a reply (R114) -/

/-- What a reply is judged to be: bad with its LINK code, QUIET, or a REPORT. -/
inductive Judged where
  | bad (code : Byte)
  | quiet
  | report (r : Report)
deriving DecidableEq, Repr

/-- The byte at a place of a frame. -/
def frameAt (bytes : List Byte) (k : Nat) : Byte := bytes.getD k 0

/-- The CRC of a frame is right: over the second byte to the third from the end (R114, check 2). -/
def frameCrcOk (bytes : List Byte) : Bool :=
  crcBytes ((bytes.drop 1).take (bytes.length - 3)) == bytes.drop (bytes.length - 2)

/-- The REPORT a frame carries (R106). -/
def frameReport (agent : Byte) (bytes : List Byte) : Report :=
  { agent, seq := frameAt bytes 3, kind := frameAt bytes 4,
    path := ⟨frameAt bytes 5, frameAt bytes 6, frameAt bytes 7, frameAt bytes 8⟩,
    group := frameAt bytes 9, code := frameAt bytes 10,
    detail := (bytes.drop 12).take (frameAt bytes 11).toNat }

/-- Check 5: the size of the frame agrees with its type (R114). -/
def frameSizeOk (bytes : List Byte) : Bool :=
  if frameAt bytes 2 = 0x03 then bytes.length == 5
  else decide (14 ≤ bytes.length) && decide ((frameAt bytes 11).toNat ≤ 8)
    && bytes.length == 14 + (frameAt bytes 11).toNat

/-- The judgement of a reply to a POLL of an agent (R114). -/
def judgeFrame (agent : Byte) (stopBits : Bool) (bytes : List Byte) : Judged :=
  if !stopBits || frameAt bytes 0 != 0xB4 || decide (bytes.length < 5)
      || decide (Config.frameMax < bytes.length) then .bad 2
  else if !frameCrcOk bytes then .bad 1
  else if frameAt bytes 1 != 0x80 + agent then .bad 3
  else if frameAt bytes 2 != 0x02 && frameAt bytes 2 != 0x03 then .bad 3
  else if !frameSizeOk bytes then .bad 2
  else if frameAt bytes 2 = 0x03 then .quiet
  else .report (frameReport agent bytes)

/-! ## The end of an exchange -/

/-- A valid reply in the agent's record (R115). -/
def Agent.heard (x : Agent) : Agent := { x with state := .online, misses := 0 }

/-- A valid QUIET (R115). -/
def Agent.quiet (x : Agent) : Agent := { x.heard with stored := (0, .none) }

/-- The kind byte names a kind of report (R108). -/
def Report.kindOk (r : Report) : Bool := decide (1 ≤ r.kind.toNat) && decide (r.kind.toNat ≤ 4)

/-- An entry of the link queue is a report entry (R111). -/
def LinkEntry.isReport : LinkEntry → Bool
  | .report _ => true
  | .part _ _ _ => false

/-- The report repeats the seq last handed on (R117); seq 0 never does (log entry 15). -/
def Report.replays (r : Report) (x : Agent) : Bool := r.seq == x.lastSeq && r.seq != 0

/-- A new report (R116). -/
def newReport (r : Report) (s : State) : State :=
  if r.seq = 0 ∨ r.kindOk = false then
    withAgent r.agent (fun x => { x with stored := (r.seq, .refusedMalformed) }) s
  else if s.link.queue.any LinkEntry.isReport then
    withAgent r.agent (fun x => { x with stored := (r.seq, .refusedBusy) }) s
  else
    enqueue r.agent (.report r)
      (withAgent r.agent (fun x => { x with lastSeq := r.seq, stored := (0, .none) }) s)

/-- A valid REPORT (R115 to R117). -/
def judgedReport (r : Report) (s : State) : State :=
  match findAgent s.link.roster r.agent with
  | none => s
  | some x =>
    let s1 := withAgent r.agent Agent.heard s
    if r.replays x then s1 else newReport r s1

/-- A judged reply of a live exchange (R115 to R121). -/
def judgedLive (a : Byte) (j : Judged) (s : State) : State :=
  match j with
  | .bad code => miss a (some code) s
  | .quiet => withAgent a Agent.quiet s
  | .report r => judgedReport r s

/-- A judged reply of an exchange that a commit has overtaken: a valid REPORT with a new seq and a
valid kind and seq is answered REFUSED_BUSY; nothing else is recorded (R123). -/
def judgedBusy (j : Judged) (s : State) : State :=
  match j with
  | .bad _ => s
  | .quiet => s
  | .report r =>
    match findAgent s.link.roster r.agent with
    | none => s
    | some x =>
      if r.seq ≠ 0 ∧ r.kindOk = true ∧ r.seq ≠ x.lastSeq then
        withAgent r.agent (fun x => { x with stored := (r.seq, .refusedBusy) }) s
      else s

/-- What a judged reply does, by how the exchange still counts (R115 to R117, R121, R123). -/
def judgedReply (x : Exchange) (j : Judged) (s : State) : State :=
  match x.fate with
  | .live => judgedLive x.agent j s
  | .busyOnly => judgedBusy j s
  | .dropped => s

/-- The reply is judged while bytes may still come: they are discarded, and the exchange is over
once the line is idle (R105). -/
def holdLine (x : Exchange) (s : State) : State :=
  { s with link.exchange := some { x with judged := true }, link.line := .busy }

/-- A reply judged when its frame has ended by the idle rule, which ends the exchange, or at its
23rd byte (R105, R114). -/
def workReplyJudge (x : Exchange) (stopBits : Bool) (bytes : List Byte) (s : State) : State :=
  let s1 := judgedReply x (judgeFrame x.agent stopBits bytes) s
  if Config.frameMax < bytes.length then holdLine x s1 else endExchange s1

/-- Bytes that belong to no exchange or follow a judged reply are discarded (R105, R126): 23 of them
without an idle line leave the line taken; fewer have ended by the idle rule and leave it free, and
an exchange whose reply was judged is then over. -/
def discardBytes (bytes : List Byte) (s : State) : State :=
  if Config.frameMax < bytes.length then { s with link.line := .busy }
  else if s.link.exchange.isSome then endExchange s
  else { s with link.line := .idle }

/-- The part listens on LRX: while LDE is high it does not judge it (R104, R126). -/
def State.listens (s : State) : Bool := s.clocked && s.link.line != .sending

/-- REPLY_JUDGE (R114); nothing is received while a POLL is sent (R126). -/
def execReplyJudge (stopBits : Bool) (bytes : List Byte) (s : State) :
    Host.Outcome State Fault Refusal :=
  .next
    (if s.listens then
      match s.link.exchange with
      | none => discardBytes bytes s
      | some x =>
        if x.judged then discardBytes bytes s
        else workReplyJudge x stopBits bytes s
     else s)

/-- The end of an exchange without a reply: a miss, where the exchange still counts (R105, R119,
R123). -/
def workReplyWindowClose (x : Exchange) (s : State) : State :=
  if x.fate = .live then endExchange (miss x.agent none s) else endExchange s

/-- REPLY_WINDOW_CLOSE (R105): the window opens at the end of the POLL's last stop bit. -/
def execReplyWindowClose (s : State) : Host.Outcome State Fault Refusal :=
  .next
    (match s.link.exchange with
     | none => s
     | some x => if s.listens && !x.judged then workReplyWindowClose x s else s)

end Sys2Proof.Machine
end

