-- ==== Sys2Proof/Machine/Release.lean ====
section
/-!
DEFINITION. Release Control's commands: SET_MODE (R130, R131) and GRANT (R134).
-/

namespace Sys2Proof.Machine

/-- The response of SET-MODE and GRANT: mode, release state, FATAL_HELD copy, topology state, as
they stand after the command (R137). -/
def releaseResponse (s : State) : List Byte :=
  [s.release.mode.code, s.release.state.code, byte s.release.fatalCopy, s.topo.state.code]

/-- The result of SET-MODE (R130). -/
def modeCheck (s : State) : Byte :=
  if s.window.argAt 0 = 0 then Result.ok
  else if s.window.argAt 0 = 1 then
    if s.topo.state = .loaded then Result.ok else Result.noTopology
  else Result.badArgument

/-- Release Control after SET-MODE RUN (R130) or SET-MODE HOLD (R131). -/
def ReleaseControl.setMode (r : ReleaseControl) (run : Bool) : ReleaseControl :=
  if run then { r with mode := .run } else r.hold

/-- SET-MODE at its owner (R130, R131). HOLD in HOLD and RUN in RUN change nothing. -/
def workSetMode (s : State) : State :=
  if modeCheck s = Result.ok then
    let s1 := { s with release := s.release.setMode (s.window.argAt 0 == 1) }
    complete Result.ok (releaseResponse s1) s1
  else complete (modeCheck s) (releaseResponse s) s

/-- SET_MODE (R130). -/
def execSetMode (s : State) : Host.Outcome State Fault Refusal :=
  .next (giveCommand 0x30 workSetMode s)

/-- The result of GRANT (R134). -/
def grantCheck (s : State) : Byte :=
  if s.release.fatalCopy ≠ 0 then Result.fatalStanding
  else if s.release.mode ≠ .run then Result.wrongMode
  else if s.topo.state ≠ .loaded then Result.noTopology
  else if s.release.state = .granted then Result.already
  else Result.ok

/-- GRANT at its owner (R134). -/
def workGrant (s : State) : State :=
  if grantCheck s = Result.ok then
    let s1 := { s with release.state := .granted }
    complete Result.ok (releaseResponse s1) s1
  else complete (grantCheck s) (releaseResponse s) s

/-- GRANT (R134). -/
def execGrant (s : State) : Host.Outcome State Fault Refusal :=
  .next (giveCommand 0x31 workGrant s)

end Sys2Proof.Machine
end

