-- ==== Sys2Proof/Machine/Reports.lean ====
section
/-!
DEFINITION. The link's requests at the Table Engine: reports (R17, R23, R69 to R80, R122), lapses
(R81) and LINK raises (R121).
-/

namespace Sys2Proof.Machine

/-! ## Checks -/

/-- The path is the agent's home or below it (R122). -/
def inScope (s : State) (r : Report) : Bool := (homePath s r.agent).covers r.path

/-- An agent may name the group, and it is enabled (R34). -/
def agentGroup (s : State) (g : Byte) : Bool :=
  decide (9 ≤ g.toNat) && decide (g.toNat ≤ 31) && (groupOf s.groups g).enabled

/-- The key a RAISE or RESTORE report names (R122). -/
def Report.key (r : Report) : Key := ⟨r.path, r.group, r.code⟩

/-- The first of checks 1 to 3 of R17 that fails. -/
def restoreRefusal (s : State) (r : Report) : Option Verdict :=
  if !r.path.wellFormed then some .refusedMalformed
  else if !inScope s r then some .refusedScope
  else if !agentGroup s r.group then some .refusedGroup
  else none

/-- The first of checks 1 to 4 of R17 that fails. -/
def raiseRefusal (s : State) (r : Report) : Option Verdict :=
  match restoreRefusal s r with
  | some v => some v
  | none =>
    if reachableForRaise s.topo.locs r.path then none else some .refusedUnreachable

/-- The path and the bytes of an ARRIVE or a DEPART are well formed (R69, check 1). -/
def presenceFormOk (r : Report) (codeOk : Bool) : Bool :=
  r.path.wellFormed && !r.path.hasChannel && r.group == 0 && codeOk

/-- The first check of R69 that fails for an ARRIVE. -/
def arriveRefusal (s : State) (r : Report) : Option Verdict :=
  if !presenceFormOk r true then some .refusedMalformed
  else if !inScope s r then some .refusedScope
  else if pathCut s.topo.locs r.path then some .refusedUnreachable
  else none

/-- The first check of R69 that fails for a DEPART. -/
def departRefusal (s : State) (r : Report) : Option Verdict :=
  if !presenceFormOk r (r.code == 0) then some .refusedMalformed
  else if !inScope s r then some .refusedScope
  else none

/-! ## Verdicts (R18) -/

/-- The verdict on a raise. -/
def Raised.verdict : Raised → Verdict
  | .full => .refusedFull
  | .spent => .refusedSpent
  | .created => .accepted
  | .repeated => .accepted
  | .reactivated => .accepted
  | .momentary => .accepted

/-- The verdict on a restore. -/
def Restored.verdict : Restored → Verdict
  | .nothing => .nothingStanding
  | .latched => .refusedLatched
  | .restored => .accepted

/-! ## Arrival and departure at the table -/

/-- A restore made by the part (R72). -/
def Work.restorePart (w : Work) (p : LocPath) (group code : Byte) : Work :=
  (w.restore ⟨p, group, code⟩).1

/-- The kinds match (R71). -/
def kindMatches (l : Location) (installed : Byte) : Bool := l.kind == 0 || l.kind == installed

/-- The RETURN code of an arrival, by the presence before it and whether SILENT stood (R73). -/
def returnCode (before : Presence) (silent : Bool) : Option Byte :=
  match before with
  | .absent => some 1
  | .unverified => if silent then some 2 else none
  | .present => none
  | .foreign => none

/-- Step 5 of an arrival (R72, R74). -/
def Work.arriveKind (w : Work) (l : Location) (installed : Byte) : Work :=
  if kindMatches l installed then w.restorePart l.path 4 0
  else (w.raisePart l.path 4 0 [installed, l.kind]).1

/-- Step 6 of an arrival (R72, R73). -/
def Work.arriveReturn (w : Work) (l : Location) (silent : Bool) : Work :=
  match returnCode l.presence silent with
  | some code => (w.raisePart l.path 3 code []).1
  | none => w

/-- An arrival at record i, whose record was l when the request was taken (R71 to R73). -/
def Work.arrive (w : Work) (i : Nat) (l : Location) (installed : Byte) : Work :=
  let silent := (findKey w.slots ⟨l.path, 2, 0⟩).isSome
  let presence := if kindMatches l installed then Presence.present else Presence.foreign
  let w1 : Work := { w with locs := markAt (setPresence w.locs i presence) .field i false }
  let w2 := ((w1.restorePart l.path 1 1).restorePart l.path 1 2).restorePart l.path 2 0
  (w2.arriveKind l installed).arriveReturn l silent

/-- A departure of record i at a path, with the LOSS code to raise unless suppressed (R77, R78,
R81). -/
def Work.depart (w : Work) (i : Nat) (p : LocPath) (code : Byte) : Work :=
  let w1 : Work := { w with locs := setPresence w.locs i .absent }
  let w2 := w1.restorePart p 4 0
  if cut w.locs i then w2 else (w2.raisePart p 1 code []).1

/-! ## Report entries -/

/-- The work of a report past its checks, or its refusal, and the verdict. -/
def answerWith (s : State) (r : Report) (refusal : Option Verdict)
    (work : Work → Work × Verdict) : State :=
  match refusal with
  | some v => answerReport r v s
  | none => answerReport r (work (taking s)).2 (handOff s (work (taking s)).1)

/-- The RAISE of an agent past its checks (R17, R122). -/
def Work.reportRaise (w : Work) (r : Report) : Work × Verdict :=
  let x := w.raise ⟨r.key, r.detail, .agent r.agent⟩
  (x.1, x.2.verdict)

/-- The RESTORE of an agent past its checks (R23, R122). -/
def Work.reportRestore (w : Work) (r : Report) : Work × Verdict :=
  let x := w.restore r.key
  (x.1, x.2.verdict)

/-- The ARRIVE of an agent past its checks (R71 to R76). -/
def Work.reportArrive (w : Work) (r : Report) : Work × Verdict :=
  match configured w.locs r.path with
  | some i =>
    match w.locs[i]? with
    | some l => (w.arrive i l r.code, .accepted)
    | none => (w, .accepted)
  | none =>
    let x := w.raisePart r.path 5 0 [r.code]
    (x.1, x.2.verdict)

/-- The DEPART of an agent past its checks (R77 to R80). -/
def Work.reportDepart (w : Work) (r : Report) : Work × Verdict :=
  match configured w.locs r.path with
  | some i => (w.depart i r.path 1, .accepted)
  | none =>
    let x := w.restore ⟨r.path, 5, 0⟩
    (x.1, x.2.verdict)

/-- A granted report entry of a kind at the head of the queue is worked (R111, R122). -/
def reportStep (kind : Byte) (work : Report → State → State) (s : State) : State :=
  match s.link.queue with
  | .report r :: _ => if r.kind = kind ∧ s.linkGranted then work r (granted .link s) else s
  | .part _ _ _ :: _ => s
  | [] => s

/-- RAISE, kind 1 (R17). -/
def workReportRaise (r : Report) (s : State) : State :=
  answerWith s r (raiseRefusal s r) (·.reportRaise r)

/-- REPORT_RAISE (R17). -/
def execReportRaise (s : State) : Host.Outcome State Fault Refusal :=
  .next (reportStep 1 workReportRaise s)

/-- RESTORE, kind 2 (R23). -/
def workReportRestore (r : Report) (s : State) : State :=
  answerWith s r (restoreRefusal s r) (·.reportRestore r)

/-- REPORT_RESTORE (R23). -/
def execReportRestore (s : State) : Host.Outcome State Fault Refusal :=
  .next (reportStep 2 workReportRestore s)

/-- ARRIVE, kind 3 (R71). -/
def workReportArrive (r : Report) (s : State) : State :=
  answerWith s r (arriveRefusal s r) (·.reportArrive r)

/-- REPORT_ARRIVE (R71). -/
def execReportArrive (s : State) : Host.Outcome State Fault Refusal :=
  .next (reportStep 3 workReportArrive s)

/-- DEPART, kind 4 (R77). -/
def workReportDepart (r : Report) (s : State) : State :=
  answerWith s r (departRefusal s r) (·.reportDepart r)

/-- REPORT_DEPART (R77). -/
def execReportDepart (s : State) : Host.Outcome State Fault Refusal :=
  .next (reportStep 4 workReportDepart s)

/-! ## Part entries -/

/-- The home index of an agent (R109). -/
def homeIndex (s : State) (a : Byte) : Nat :=
  match findAgent s.link.roster a with
  | some x => x.home
  | none => 0

/-- The LINK raise of a part entry, if it carries one (R121). -/
def Work.partLink (w : Work) (home : LocPath) (linkCode : Option Byte) : Work :=
  match linkCode with
  | some c => (w.raisePart home 7 c []).1
  | none => w

/-- The lapse of a part entry, if it carries one (R81). -/
def Work.partLapse (w : Work) (i : Nat) (home : LocPath) (lapse : Bool) : Work :=
  if lapse then w.depart i home 2 else w

/-- A part entry worked as one request: the LINK raise first, then the lapse (R111); its answer
removes it from the queue. -/
def workPart (a : Byte) (linkCode : Option Byte) (lapse : Bool) (s : State) : State :=
  let w := ((taking s).partLink (homePath s a) linkCode).partLapse (homeIndex s a) (homePath s a)
    lapse
  dequeue a (handOff s w)

/-- LAPSE_REQUEST: a granted part entry that carries a lapse (R81; log entry 20). -/
def execLapseRequest (s : State) : Host.Outcome State Fault Refusal :=
  .next
    (match s.link.queue with
     | .part a linkCode lapse :: _ =>
       if lapse && s.linkGranted then workPart a linkCode lapse (granted .link s) else s
     | .report _ :: _ => s
     | [] => s)

/-- LINK_RAISE: a granted part entry that carries a LINK raise (R121; log entry 20). -/
def execLinkRaise (s : State) : Host.Outcome State Fault Refusal :=
  .next
    (match s.link.queue with
     | .part a linkCode lapse :: _ =>
       if linkCode.isSome && s.linkGranted then workPart a linkCode lapse (granted .link s) else s
     | .report _ :: _ => s
     | [] => s)

end Sys2Proof.Machine
end

