-- ==== Sys2Proof/Machine/Reset.lean ====
section
/-!
DEFINITION. Cold reset and the clock input (R186, R203). RESETN is a level that is sampled on CLK;
power-up holds the part itself. Log entry 7.
-/

namespace Sys2Proof.Machine

/-- The port in cold reset: a transaction in progress is cut off (R188). -/
def Port.inColdReset (p : Port) : Port := if p = .released then .released else .cut

/-- Every block in its state after cold reset, held there (R186). The inputs, CSN and the steps
still to happen are not the part's. -/
def coldReset (s : State) : State :=
  { State.reset with
    port := s.port.inColdReset
    inReset := true
    resetnLow := s.resetnLow
    poweringUp := s.poweringUp
    clkPresent := s.clkPresent
    pending := s.pending }

/-- CLK samples RESETN (R203): low enters cold reset; seen high, the part leaves it, unless power-up
still holds it. Without CLK nothing is seen. -/
def sampleReset (s : State) : State :=
  if s.clkPresent = false then s
  else if s.resetnLow then coldReset s
  else if s.poweringUp then s
  else { s with inReset := false }

/-- COLD_RESET (R186): RESETN is driven low, which cuts off a transaction at once (log entry 7), or
power-up begins. -/
def execColdReset (cause : ResetCause) (s : State) : Host.Outcome State Fault Refusal :=
  .next
    (match cause with
     | .resetn => sampleReset { s with resetnLow := true, port := s.port.inColdReset }
     | .powerUp => coldReset { s with poweringUp := true })

/-- RESET_RELEASE (R186): RESETN has risen and power-up has ended. -/
def execResetRelease (s : State) : Host.Outcome State Fault Refusal :=
  .next (sampleReset { s with resetnLow := false, poweringUp := false })

/-- CLK_ABSENT (R203). -/
def execClkAbsent (s : State) : Host.Outcome State Fault Refusal :=
  .next { s with clkPresent := false }

/-- CLK_RESUMED (R203): RESETN is sampled again. -/
def execClkResumed (s : State) : Host.Outcome State Fault Refusal :=
  .next (sampleReset { s with clkPresent := true })

end Sys2Proof.Machine
end

