-- ==== Sys2Proof/Machine/Time.lean ====
section
/-!
DEFINITION. The Stamp Clock's millisecond (R9), the expiry of the verify window (R65) and its
granted request (R66, R67).
-/

namespace Sys2Proof.Machine

/-- The gap after a poll round, one millisecond later (R112; log entry 9). -/
def RoundPhase.tick (p : RoundPhase) : RoundPhase :=
  match p with
  | .gap left => .gap (left - 1)
  | .stopped => .stopped
  | .due => .due
  | .dueAfter => .dueAfter
  | .calling => .calling
  | .polling => .polling

/-- One millisecond. An expiry that has fallen due comes before the clock moves on (R65; log entry
8). -/
def tick (s : State) : State :=
  let s1 := expireIfDue s
  { s1 with clock := s1.clock + 1, link.phase := s1.link.phase.tick }

/-- STAMP_TICK (R9). -/
def execStampTick (s : State) : Host.Outcome State Fault Refusal :=
  .next (if s.clocked then tick s else s)

/-- VERIFY_EXPIRY (R65). -/
def execVerifyExpiry (s : State) : Host.Outcome State Fault Refusal :=
  .next (if s.clocked && s.expiryDue then expire s else s)

/-- SILENT is raised at record i: it is UNVERIFIED, its parent is the root or PRESENT (R66), and no
strict configured ancestor is ABSENT (R78). -/
def silentAt (locs : List Location) (i : Nat) (l : Location) : Bool :=
  l.presence == .unverified && (l.parent == 0 || presenceAt locs l.parent == .present)
    && !cut locs i

/-- The paths at which the expiry request raises SILENT, in ascending record order (R66). -/
def silentPaths (locs : List Location) : List LocPath :=
  (locs.zipIdx.filter fun x => silentAt locs x.2 x.1).map (·.1.path)

/-- The SILENT raises of the expiry request (R66). -/
def Work.raiseSilent (w : Work) (paths : List LocPath) : Work :=
  paths.foldl (fun w p => (w.raisePart p 2 0 []).1) w

/-- The expiry request at work (R66, R67). -/
def workVerifyExpiry (s : State) : State :=
  handOff s ((taking s).raiseSilent (silentPaths s.topo.locs))

/-- The expiry request waits and is the next to be granted (R14). -/
def State.verifyGranted (s : State) : Bool := s.live && s.nextGrant == some .verify

/-- VERIFY_EXPIRY_REQUEST (R66). -/
def execVerifyExpiryRequest (s : State) : Host.Outcome State Fault Refusal :=
  .next
    (if s.verifyGranted then
      workVerifyExpiry { granted .verify s with topo.verify.waiting := false }
     else s)

end Sys2Proof.Machine
end

