-- ==== Sys2Proof/Machine/Window.lean ====
section
/-!
DEFINITION. The Command Window's own steps (11_the_command_window.md,
08_summaries_and_attention.md): the bytes that SPI transactions apply, the read of 0x0C, undefined
codes and overruns. Bytes move on SCK, so they are applied whether CLK is present or not (log entry
6); nothing moves in cold reset (R186).
-/

namespace Sys2Proof

/-! ## The place of a row's byte in its transaction (R188; log entry 17) -/

/-- CSN falls before the byte. -/
def Csn.opens : Csn → Bool
  | .only => true
  | .first => true
  | .next => false
  | .last => false

/-- CSN rises after the byte. -/
def Csn.closes : Csn → Bool
  | .only => true
  | .first => false
  | .next => false
  | .last => true

/-- The byte's place, by whether rows of its transaction stand before it and after it. -/
def Csn.of (before after : Bool) : Csn :=
  match before, after with
  | false, false => .only
  | false, true => .first
  | true, true => .next
  | true, false => .last

end Sys2Proof

namespace Sys2Proof.Machine

/-! ## The port -/

/-- A write transaction is in progress. -/
def Port.writes : Port → Bool
  | .writing _ _ => true
  | .released => false
  | .header => false
  | .reading _ => false
  | .cut => false

/-- The last byte that the running write transaction has written to CMD (R192). -/
def Port.code : Port → Option Byte
  | .writing _ code => code
  | .released => none
  | .header => none
  | .reading _ => none
  | .cut => none

/-! ## Bytes written -/

/-- One byte written to an address other than CMD: ATTN_CAUSE clears causes (R151), ATTN_ENABLE
is replaced (R152), ARG is stored (R191), every other address ignores the byte (R187). -/
def writeAt (address : BitVec 7) (value : Byte) (s : State) : State :=
  if address = 0x03 then { s with window.cause := s.window.cause &&& ~~~value }
  else if address = 0x04 then { s with window.enable := value }
  else if 0x10 ≤ address.toNat ∧ address.toNat ≤ 0x2F then
    { s with window.arg := s.window.arg.setIfInBounds (address.toNat - 0x10) value }
  else s

/-- A data byte applied in a write transaction that runs; none is applied in one that cold reset has
cut off (R188). -/
def applyByte (address : BitVec 7) (value : Byte) (s : State) : State :=
  if s.port.writes then
    { writeAt address value s with port := .writing (address + 1) s.port.code }
  else s

/-- A data byte's step. CSN falls before the first byte of a transaction and rises after its last.
In cold reset no byte is applied, and a transaction that begins is cut off (R186, R188). -/
def writeByte (address : BitVec 7) (b : DataByte) (s : State) : State :=
  if s.live then
    let s1 := if b.csn.opens then { csnRise s with port := .writing address none } else s
    let s2 := applyByte address b.value s1
    if b.csn.closes then csnRise s2 else s2
  else if b.csn.closes then csnRise s
  else if b.csn.opens then { s with port := .cut }
  else s

/-- ATTN_CAUSE_WRITE (R151). -/
def execAttnCauseWrite (value : DataByte) (s : State) : Host.Outcome State Fault Refusal :=
  .next (writeByte 0x03 value s)

/-- ATTN_ENABLE_WRITE (R152). -/
def execAttnEnableWrite (value : DataByte) (s : State) : Host.Outcome State Fault Refusal :=
  .next (writeByte 0x04 value s)

/-- ARG_WRITE (R187, R191). -/
def execArgWrite (address : BitVec 7) (value : DataByte) (s : State) :
    Host.Outcome State Fault Refusal :=
  .next (writeByte address value s)

/-! ## The read of 0x0C -/

/-- The whole Stamp Clock value into the stamp latch (R190). -/
def latchStamp (s : State) : State := { s with window.stampLatch := s.clock }

/-- STAMP_LATCH (R190); not in a transaction that cold reset has cut off (R188). -/
def execStampLatch (s : State) : Host.Outcome State Fault Refusal :=
  .next (if s.live && s.port != .cut then latchStamp s else s)

/-! ## CMD writes that take no command of R197 -/

/-- BAD_COMMAND (R196). A defined code is no BAD_COMMAND (log entry 25). -/
def execBadCommand (code : Byte) (s : State) : Host.Outcome State Fault Refusal :=
  .next
    (if Config.commandCodes.contains code then s
     else giveCommand code (complete Result.badCommand []) s)

/-- OVERRUN (R193): a CMD write while BUSY, whichever code it gives; with the window not BUSY there
is no such step (log entry 24). -/
def execOverrun (s : State) : Host.Outcome State Fault Refusal :=
  .next (if s.window.cmdState = .busy then giveCommand 0x00 id s else s)

end Sys2Proof.Machine
end

