-- ==== Sys2Proof/Machine/Dispatch.lean ====
section
/-! DEFINITION. The meaning of each step, one arm per row of spec/opcode_table.json. -/

namespace Sys2Proof.Machine

def exec (i : Instr) (s : State) : Host.Outcome State Fault Refusal :=
  match i with
  | .topoBegin => Sys2Proof.Machine.execTopoBegin s
  | .topoPut => Sys2Proof.Machine.execTopoPut s
  | .topoCommit engine => Sys2Proof.Machine.execTopoCommit engine s
  | .commitComplete => Sys2Proof.Machine.execCommitComplete s
  | .groupSet => Sys2Proof.Machine.execGroupSet s
  | .setLimits engine => Sys2Proof.Machine.execSetLimits engine s
  | .setStamp => Sys2Proof.Machine.execSetStamp s
  | .setMode => Sys2Proof.Machine.execSetMode s
  | .grant => Sys2Proof.Machine.execGrant s
  | .lookup engine => Sys2Proof.Machine.execLookup engine s
  | .get engine => Sys2Proof.Machine.execGet engine s
  | .listOpen engine => Sys2Proof.Machine.execListOpen engine s
  | .listNext engine => Sys2Proof.Machine.execListNext engine s
  | .listClose engine => Sys2Proof.Machine.execListClose engine s
  | .agentInfo => Sys2Proof.Machine.execAgentInfo s
  | .ack engine => Sys2Proof.Machine.execAck engine s
  | .ackAll engine => Sys2Proof.Machine.execAckAll engine s
  | .clearDomain => Sys2Proof.Machine.execClearDomain s
  | .sweepStart => Sys2Proof.Machine.execSweepStart s
  | .sweepStep => Sys2Proof.Machine.execSweepStep s
  | .clearSummary => Sys2Proof.Machine.execClearSummary s
  | .raiseApp engine => Sys2Proof.Machine.execRaiseApp engine s
  | .restoreApp engine => Sys2Proof.Machine.execRestoreApp engine s
  | .warmRestart engine => Sys2Proof.Machine.execWarmRestart engine s
  | .warmRestartComplete part => Sys2Proof.Machine.execWarmRestartComplete part s
  | .badCommand code => Sys2Proof.Machine.execBadCommand code s
  | .overrun => Sys2Proof.Machine.execOverrun s
  | .attnCauseWrite value => Sys2Proof.Machine.execAttnCauseWrite value s
  | .attnEnableWrite value => Sys2Proof.Machine.execAttnEnableWrite value s
  | .argWrite address value => Sys2Proof.Machine.execArgWrite address value s
  | .stampLatch => Sys2Proof.Machine.execStampLatch s
  | .coldReset cause => Sys2Proof.Machine.execColdReset cause s
  | .resetRelease => Sys2Proof.Machine.execResetRelease s
  | .stampTick => Sys2Proof.Machine.execStampTick s
  | .verifyExpiry => Sys2Proof.Machine.execVerifyExpiry s
  | .verifyExpiryRequest => Sys2Proof.Machine.execVerifyExpiryRequest s
  | .roundStart => Sys2Proof.Machine.execRoundStart s
  | .poll => Sys2Proof.Machine.execPoll s
  | .replyWindowClose => Sys2Proof.Machine.execReplyWindowClose s
  | .replyJudge stopBits bytes => Sys2Proof.Machine.execReplyJudge stopBits bytes s
  | .reportRaise => Sys2Proof.Machine.execReportRaise s
  | .reportRestore => Sys2Proof.Machine.execReportRestore s
  | .reportArrive => Sys2Proof.Machine.execReportArrive s
  | .reportDepart => Sys2Proof.Machine.execReportDepart s
  | .lapseRequest => Sys2Proof.Machine.execLapseRequest s
  | .linkRaise => Sys2Proof.Machine.execLinkRaise s
  | .windowRequestGrant => Sys2Proof.Machine.execWindowRequestGrant s
  | .clkAbsent => Sys2Proof.Machine.execClkAbsent s
  | .clkResumed => Sys2Proof.Machine.execClkResumed s

end Sys2Proof.Machine
end

