-- ==== Sys2Proof/Machine/Step.lean ====
section
/-!
DEFINITION. One step: the front of the queue is taken and worked; with nothing pending the part
idles (log entry 4).
-/

namespace Sys2Proof.Machine

/-- The state with its queue replaced. -/
def State.withPending (s : State) (q : List Instr) : State := { s with pending := q }

/-- The command at the front of the queue, worked on the state with the queue's rest. -/
def step (s : State) : Host.Outcome State Fault Refusal :=
  match s.pending with
  | [] => .next s
  | c :: rest => exec c (s.withPending rest)

/-- s with the command that a word spells at the front of its queue; the table gives no bits, so no
word spells one (log entry 26). -/
def State.withFetchWord (s : State) (nbits w : Nat) : State :=
  match decodeTableWord nbits w with
  | some c => s.withPending (c :: s.pending)
  | none => s

end Sys2Proof.Machine
end

