-- ==== Sys2Proof/Machine/Spi.lean ====
section
/-!
DEFINITION. The SPI port byte by byte (R187 to R190): what an address reads, what SDO drives, what a
header and a data byte do, the rise of CSN, and the steps that a write transaction makes (R188,
R192). The rows of the table are the bytes and commands that have an effect; the other reads change
nothing but the held snapshots of their transaction (log entry 17).
-/

namespace Sys2Proof.Machine

/-! ## Reads -/

/-- The counts as the running transaction shows them: held from the first of them read (R147). -/
def State.shownCounts (s : State) : Counts := s.window.heldCounts.getD s.window.counts

/-- The transaction holds the four counts from here on (R147, R190). -/
def holdCounts (s : State) : State := { s with window.heldCounts := some s.shownCounts }

/-- A byte of a 32-bit value, byte 0 the most significant (R187). -/
def byteOf32 (v : BitVec 32) (k : Nat) : Byte := (v >>> (8 * (3 - k))).setWidth 8

/-- The byte that one of the four counts shows. -/
def Counts.shown (c : Counts) (address : BitVec 7) : Byte :=
  if address = 0x08 then byte c.unitStanding
  else if address = 0x09 then byte c.fieldStanding
  else if address = 0x0A then byte c.fatalHeld
  else byte c.free

/-- The byte read at an address, and the state after the read (R187, R190). -/
def readAt (address : BitVec 7) (s : State) : Byte × State :=
  let n := address.toNat
  if n = 0x00 then (s.window.cmd, s)
  else if n = 0x01 then (s.cstat, s)
  else if n = 0x02 then (s.window.result, s)
  else if n = 0x03 then (s.window.cause, s)
  else if n = 0x04 then (s.window.enable, s)
  else if n = 0x05 then (s.stateRegister, s)
  else if n = 0x06 then
    ((s.summary.word >>> 8).setWidth 8, { s with window.heldSummary := some s.summary.word })
  else if n = 0x07 then ((s.window.heldSummary.getD s.summary.word).setWidth 8, s)
  else if n ≤ 0x0B then (s.shownCounts.shown address, holdCounts s)
  else if n = 0x0C then (byteOf32 s.clock 0, latchStamp s)
  else if n ≤ 0x0F then (byteOf32 s.window.stampLatch (n - 0x0C), s)
  else if n ≤ 0x2F then (s.window.arg.toList.getD (n - 0x10) 0, s)
  else if n ≤ 0x5F then (s.window.resp.toList.getD (n - 0x30) 0, s)
  else (0, s)

/-! ## The port -/

/-- What SDO does: high impedance, or the byte it shifts out; or the spec gives it no level (log
entry 17). -/
inductive Sdo where
  | highZ
  | drives (value : Byte)
  | unstated
deriving DecidableEq, Repr

/-- SDO from here to the end of the next byte: high impedance while CSN is high and in cold reset, 0
in the header and in a write, the byte read in a read (R186, R188). Out of cold reset the spec gives
no level in a transaction that a cold reset has cut off (log entry 17). -/
def State.sdo (s : State) : Sdo :=
  if s.live then
    match s.port with
    | .released => .highZ
    | .cut => .unstated
    | .header => .drives 0
    | .writing _ _ => .drives 0
    | .reading a => .drives (readAt a s).1
  else .highZ

/-- CSN falls (R188); in cold reset the transaction is cut off as it begins (R186). -/
def spiFall (s : State) : State :=
  if s.port = .released then { s with port := if s.live then .header else .cut } else s

/-- The port after a header: bit 7 is 1 for a read, bits 6 to 0 are the first address (R188). -/
def Port.afterHeader (header : Byte) : Port :=
  if header.msb then .reading (header.setWidth 7) else .writing (header.setWidth 7) none

/-- Eight bits on SDI: the header, or a data byte, which concerns the next address after the one
before it, modulo 128; a byte written to CMD waits for the rise of CSN (R188, R192). While CSN is
high, in a transaction that is cut off and in cold reset they do nothing. -/
def spiByte (value : Byte) (s : State) : State :=
  if s.live then
    match s.port with
    | .released => s
    | .cut => s
    | .header => { s with port := Port.afterHeader value }
    | .writing a code =>
      if a = 0x00 then { s with port := .writing (a + 1) (some value) }
      else { writeAt a value s with port := .writing (a + 1) code }
    | .reading a => { (readAt a s).2 with port := .reading (a + 1) }
  else s

/-- What SDO does during each of a number of bytes, and the state after them. -/
def spiBytes : List Byte → State → List Sdo × State
  | [], s => ([], s)
  | b :: rest, s =>
    let r := spiBytes rest (spiByte b s)
    (s.sdo :: r.1, r.2)

/-! ## Bits -/

/-- What SDO does in one bit time. -/
inductive SdoBit where
  | highZ
  | level (high : Bool)
  | unstated
deriving DecidableEq, Repr

/-- The bits of a byte as they travel: most significant first (R188). -/
def msbFirst (b : Byte) : List Bool := (List.range 8).map fun n => b.getLsbD (7 - n)

/-- The byte of eight bits, the most significant first (R188). -/
def ofMsbFirst (bits : List Bool) : Byte :=
  BitVec.ofNat 8 (bits.foldl (fun n b => 2 * n + b.toNat) 0)

/-- What SDO does in the eight bit times of a byte (R188). -/
def Sdo.bits : Sdo → List SdoBit
  | .highZ => List.replicate 8 .highZ
  | .drives v => (msbFirst v).map .level
  | .unstated => List.replicate 8 .unstated

/-- Bits on SDI between the edges of CSN, and what SDO does in each: eight of them are a byte, and a
byte cut short does nothing (R188). -/
def spiBits : List Bool → State → List SdoBit × State
  | b7 :: b6 :: b5 :: b4 :: b3 :: b2 :: b1 :: b0 :: rest, s =>
    let r := spiBits rest (spiByte (ofMsbFirst [b7, b6, b5, b4, b3, b2, b1, b0]) s)
    (s.sdo.bits ++ r.1, r.2)
  | short, s => (s.sdo.bits.take short.length, s)

/-! ## The rise of CSN -/

/-- The step that a CMD code gives (R192, R196, R197). -/
def commandOf (engine : EngineAt) (code : Byte) : Instr :=
  match code.toNat with
  | 0x10 => .topoBegin
  | 0x11 => .topoPut
  | 0x12 => .topoCommit engine
  | 0x22 => .groupSet
  | 0x23 => .setLimits engine
  | 0x24 => .setStamp
  | 0x30 => .setMode
  | 0x31 => .grant
  | 0x40 => .lookup engine
  | 0x41 => .get engine
  | 0x42 => .listOpen engine
  | 0x43 => .listNext engine
  | 0x44 => .listClose engine
  | 0x45 => .agentInfo
  | 0x50 => .ack engine
  | 0x51 => .ackAll engine
  | 0x52 => .clearDomain
  | 0x53 => .clearSummary
  | 0x54 => .raiseApp engine
  | 0x55 => .restoreApp engine
  | 0x60 => .warmRestart engine
  | _ => .badCommand code

/-- CSN rises: the command of the last byte written to CMD is given (R192); a byte cut short is
discarded (R188). -/
def spiRise (engine : EngineAt) (s : State) : Host.Outcome State Fault Refusal :=
  match s.port.code with
  | some code => exec (commandOf engine code) s
  | none => .next (csnRise s)

/-! ## The steps of a write transaction -/

/-- The step of one data byte of a write transaction, where it is not CMD (R188, R191). -/
def dataStep (address : BitVec 7) (value : DataByte) : Instr :=
  if address = 0x03 then .attnCauseWrite value
  else if address = 0x04 then .attnEnableWrite value
  else .argWrite address value

/-- The steps of the rest of a write transaction: its bytes in order, then, when CSN rises, the
command of the last byte written to CMD (R188, R192). before: a step of it has been made already. -/
def writeSteps (engine : EngineAt) : Bool → BitVec 7 → List Byte → Option Byte → List Instr
  | _, _, [], none => []
  | _, _, [], some code => [commandOf engine code]
  | before, a, v :: rest, code =>
    if a = 0x00 then writeSteps engine before (a + 1) rest (some v)
    else
      dataStep a ⟨v, Csn.of before (code.isSome || !rest.isEmpty)⟩
        :: writeSteps engine true (a + 1) rest code

/-- The steps of a write transaction of a header's address and its data bytes. -/
def writeBurst (engine : EngineAt) (address : BitVec 7) (values : List Byte) : List Instr :=
  writeSteps engine false address values none

end Sys2Proof.Machine
end

