-- ==== Sys2Proof/WellFormed.lean ====
section
/-!
DEFINITION. Which terms of Instr name a step of their row. Three rows carry data that another row
could claim: an ARG_WRITE of an address with a row of its own, a BAD_COMMAND of a defined code, and
a reply longer than the part receives. Log entry 25 says what exec does with the other terms.
-/

namespace Sys2Proof

/-- A write to address 0x00 gives a command (R192), to 0x03 and 0x04 it is ATTN_CAUSE_WRITE and
ATTN_ENABLE_WRITE (R151, R152); every other address is ARG_WRITE's (R191). -/
def Instr.argWriteOk (address : BitVec 7) : Bool :=
  address != 0x00 && address != 0x03 && address != 0x04

/-- BAD_COMMAND is a code that names no command of R197 (R196). -/
def Instr.badCommandOk (code : Byte) : Bool := !Config.commandCodes.contains code

/-- At the 23rd byte the part judges a reply and takes no further byte (R105). -/
def Instr.replyOk (bytes : List Byte) : Bool := bytes.length ≤ Config.frameMax + 1

/-- The term names a step of its own row. -/
def Instr.wellFormed : Instr → Bool
  | .argWrite a _ => Instr.argWriteOk a
  | .badCommand c => Instr.badCommandOk c
  | .replyJudge _ bs => Instr.replyOk bs
  | .topoBegin => true
  | .topoPut => true
  | .topoCommit _ => true
  | .commitComplete => true
  | .groupSet => true
  | .setLimits _ => true
  | .setStamp => true
  | .setMode => true
  | .grant => true
  | .lookup _ => true
  | .get _ => true
  | .listOpen _ => true
  | .listNext _ => true
  | .listClose _ => true
  | .agentInfo => true
  | .ack _ => true
  | .ackAll _ => true
  | .clearDomain => true
  | .sweepStart => true
  | .sweepStep => true
  | .clearSummary => true
  | .raiseApp _ => true
  | .restoreApp _ => true
  | .warmRestart _ => true
  | .warmRestartComplete _ => true
  | .overrun => true
  | .attnCauseWrite _ => true
  | .attnEnableWrite _ => true
  | .stampLatch => true
  | .coldReset _ => true
  | .resetRelease => true
  | .stampTick => true
  | .verifyExpiry => true
  | .verifyExpiryRequest => true
  | .roundStart => true
  | .poll => true
  | .replyWindowClose => true
  | .reportRaise => true
  | .reportRestore => true
  | .reportArrive => true
  | .reportDepart => true
  | .lapseRequest => true
  | .linkRaise => true
  | .windowRequestGrant => true
  | .clkAbsent => true
  | .clkResumed => true

end Sys2Proof
end

