-- ==== Sys2Proof/Safety.lean ====
section
/-!
DEFINITION. The laws that the manual states of every moment of the part, and the conditions under
which a step has its own effect. Certificates/Slice0/Obligations.lean states them.
-/

namespace Sys2Proof.Machine

/-! ## Conditions on a state -/

/-- The window can take a command now: CLK runs, no cold reset, no transaction that cold reset has
cut off, not BUSY (R186, R188, R192, R203). -/
def State.takes (s : State) : Prop :=
  s.clocked = true ∧ s.port ≠ .cut ∧ s.window.cmdState ≠ .busy

/-- A request of the window's presented now is granted next: the rotation comes to the window (R14).
-/
def State.grantsWindow (s : State) : Prop :=
  ({ s with window.waiting := true } : State).nextGrant = some .window

/-- The state in which the owner of a command works: the command taken (R192). -/
def State.taken (s : State) (code : Byte) : State := takeCommand code (csnRise s)

/-- The state in which the Table Engine works a window request that it grants at the taking (R14).
-/
def State.atGrant (s : State) (code : Byte) : State :=
  { granted .window (s.taken code) with window.waiting := false }

/-- The arguments a command given now will read: ARG as it stands (R191, R192). -/
def State.arguments (s : State) : Window := { s.window with argCopy := s.window.arg }

/-! ## The window after a command -/

/-- The window once a command has been taken and completed: CMD and the copied arguments (R192),
RESP, RESULT, the command state and the DONE cause (R195), the OVERRUN flag cleared (R193), and the
transaction's snapshots gone (R147, R190). -/
def Window.completed (w : Window) (code result : Byte) (response : List Byte) : Window :=
  { w with
    cmd := code, argCopy := w.arg, result := result, resp := respOf response, overrun := false,
    cmdState := Result.completes result, cause := w.cause ||| Cause.done, heldSummary := none,
    heldCounts := none }

/-- The state once a command that no Table Engine request belongs to has completed; the rise of CSN
that gave it has ended its transaction (R188, R192). -/
def State.completed (s : State) (code result : Byte) (response : List Byte) : State :=
  { s with port := .released, window := s.window.completed code result response }

/-- The state once a window request granted at the taking has completed: the window is the source
granted last (R14), and nothing of it waits. -/
def State.answered (s : State) (code result : Byte) (response : List Byte) : State :=
  { granted .window s with
    port := .released
    window := { s.window.completed code result response with waiting := false } }

/-- The window once a command has been taken, while it is BUSY (R192). -/
def Window.busyWith (w : Window) (code : Byte) : Window :=
  { w with
    cmd := code, argCopy := w.arg, result := 0, resp := Vector.replicate 48 0, overrun := false,
    cmdState := .busy, heldSummary := none, heldCounts := none }

/-- The state once a command has been taken whose request waits at the Table Engine (R192, R197). -/
def State.waitsWith (s : State) (code : Byte) : State :=
  { s with port := .released, window := { s.window.busyWith code with waiting := true } }

/-- The step is a command given by a write of its CMD code (R192, R197). -/
def isCommand : Instr → Bool
  | .topoBegin => true
  | .topoPut => true
  | .topoCommit _ => true
  | .groupSet => true
  | .setLimits _ => true
  | .setStamp => true
  | .setMode => true
  | .grant => true
  | .lookup _ => true
  | .get _ => true
  | .listOpen _ => true
  | .listNext _ => true
  | .listClose _ => true
  | .agentInfo => true
  | .ack _ => true
  | .ackAll _ => true
  | .clearDomain => true
  | .clearSummary => true
  | .raiseApp _ => true
  | .restoreApp _ => true
  | .warmRestart _ => true
  | .badCommand code => Instr.badCommandOk code
  | _ => false

/-- The step moves an input of the part: reset or clock (R186, R203). -/
def isInput : Instr → Bool
  | .coldReset _ => true
  | .resetRelease => true
  | .clkAbsent => true
  | .clkResumed => true
  | _ => false

/-- The window commands that are Table Engine requests, with their codes (R12, R197); CLEAR-DOMAIN
aside, whose grant has a step of its own. -/
def requestCommands : List ((EngineAt → Instr) × Byte) :=
  [(.topoCommit, 0x12), (.setLimits, 0x23), (.lookup, 0x40), (.get, 0x41), (.listOpen, 0x42),
   (.listNext, 0x43), (.listClose, 0x44), (.ack, 0x50), (.ackAll, 0x51), (.raiseApp, 0x54),
   (.restoreApp, 0x55), (.warmRestart, 0x60)]

/-! ## What a request may change -/

/-- t differs from s, where a request of src's was granted, at most in the table, the sequence
counter, the marks, presences and counts of the map, the verify timer, the summary, the release
state, the link, the window and its port; the source is the one granted last (R14), and the counts
and FATAL_HELD that t shows are those of its table (R16). A cause set stays set (R150). -/
def requestFrame (src : Source) (s t : State) : Prop :=
  t.engine = { (granted src s).engine with
      slots := t.engine.slots, seqNext := t.engine.seqNext, seqSpent := t.engine.seqSpent }
    ∧ t.topo = { s.topo with locs := t.topo.locs, verify := t.topo.verify }
    ∧ t.release = s.release.handOff (fatalHeld t.engine.slots)
    ∧ t.window.counts = Counts.of t.engine.slots
    ∧ t.window.cause &&& s.window.cause = s.window.cause
    ∧ t.groups = s.groups ∧ t.limits = s.limits ∧ t.clock = s.clock
    ∧ t.inReset = s.inReset ∧ t.resetnLow = s.resetnLow ∧ t.poweringUp = s.poweringUp
    ∧ t.clkPresent = s.clkPresent ∧ t.pending = s.pending

/-- t is s after a granted window request that completed with a result and a response. -/
def State.answeredWith (s t : State) (code result : Byte) (response : List Byte) : Prop :=
  requestFrame .window s t ∧ t.link = s.link ∧ t.topo.verify = s.topo.verify
    ∧ t.port = .released
    ∧ t.window = { s.window.completed code result response with
        waiting := false, counts := t.window.counts, cause := t.window.cause }
    ∧ t.window.cause &&& 0x20 = 0x20

/-- The table, the counter, the map and the summary of t are those that the work w of a request
leaves, its events at the Summary Unit (R16, R142, R143). -/
def workKept (s t : State) (w : Work) : Prop :=
  t.engine.slots = w.slots ∧ t.engine.seqNext = w.seqNext ∧ t.engine.seqSpent = w.seqSpent
    ∧ t.topo.locs = w.locs
    ∧ t.summary = (w.events.foldl Summary.applyEvent (s.summary, 0)).1

/-- The causes that the work w of a request sets: of its events, of a space event and of a trip
(R132, R143, R146). -/
def workCauses (s : State) (w : Work) : Byte :=
  (w.events.foldl Summary.applyEvent (s.summary, 0)).2
    ||| (if w.space then 0x08 else 0)
    ||| (if s.release.trips (fatalHeld w.slots) then 0x04 else 0)

/-- t is s after a request of src's, the link's or the verify timer's, whose work was w (R16). -/
def worked (src : Source) (s t : State) (w : Work) : Prop :=
  requestFrame src s t ∧ workKept s t w ∧ t.port = s.port
    ∧ t.window = { s.window with
        counts := t.window.counts, cause := s.window.cause ||| workCauses s w }

/-- t is s after a granted window request whose work was w, completed with a result and a response.
-/
def workedCommand (s t : State) (w : Work) (code result : Byte) (response : List Byte) : Prop :=
  s.answeredWith t code result response ∧ workKept s t w
    ∧ t.window.cause = s.window.cause ||| workCauses s w ||| 0x20

/-! ## The answer to a link request -/

/-- The state after a report entry is refused with a verdict: the link is the source granted last,
the head has left the queue, and the verdict stands in the agent's record (R118). -/
def refusedReport (s : State) (r : Report) (v : Verdict) : State :=
  { granted .link s with
    link := { s.link with
      queue := s.link.queue.tail
      roster := s.link.roster.map fun x =>
        if x.address = r.agent then { x with waiting := false, stored := (r.seq, v) } else x } }

/-- t is s after a report entry whose work is w and whose verdict is v (R16, R118). -/
def workedReport (s t : State) (r : Report) (w : Work) (v : Verdict) : Prop :=
  worked .link s t w ∧ t.link = (refusedReport s r v).link ∧ t.topo.verify = s.topo.verify

/-- t is s after a part entry of agent a whose work is w: the entry has left the queue and the agent
is not pending (R111). -/
def workedPart (s t : State) (a : Byte) (w : Work) : Prop :=
  worked .link s t w ∧ t.topo.verify = s.topo.verify
    ∧ t.link = { s.link with
        queue := s.link.queue.tail
        roster := s.link.roster.map fun x =>
          if x.address = a then { x with waiting := false } else x }

/-- The slot holds a standing entry that satisfies p. -/
def Slot.holds (p : Entry → Bool) (sl : Slot) : Bool :=
  match sl.entry with
  | some e => p e
  | none => false

/-- What the hysteresis check leaves of a reserved slot, where its domain has room or has not (R95,
R23): an active entry that is not latching is cleared, or retired when acknowledged. -/
def Slot.eased (room : Bool) (sl : Slot) : Slot :=
  match sl.entry with
  | none => sl
  | some e =>
    if room && !e.latching then
      match e.state with
      | .activeUnack => { sl with entry := some { e with state := .clearedUnack } }
      | .activeAck => ⟨sl.gen + 1, none⟩
      | .clearedUnack => sl
    else sl

/-! ## Laws -/

/-- The release state is TRIPPED exactly when the FATAL_HELD copy is above 0 (R132); GRANTED holds
only with mode RUN (R135); RUN only with the topology LOADED (R129). -/
def ReleaseLaw (s : State) : Prop :=
  (s.release.state = .tripped ↔ 0 < s.release.fatalCopy)
    ∧ (s.release.state = .granted → s.release.mode = .run)
    ∧ (s.release.mode = .run → s.topo.state = .loaded)

/-- Between requests the counts shown and the FATAL_HELD copy agree with the table (R128, R147);
inside a commit they await its end (R64). -/
def CountsLaw (s : State) : Prop :=
  s.topo.state ≠ .committing →
    s.window.counts = Counts.of s.engine.slots ∧ s.release.fatalCopy = fatalHeld s.engine.slots

/-- No two standing entries have the same key (R4). -/
def KeyLaw (s : State) : Prop :=
  ∀ (i j : Fin 128) (e f : Entry), s.engine.slots[i].entry = some e →
    s.engine.slots[j].entry = some f → e.key = f.key → i = j

/-- The sequences of standing entries are distinct, at least 1 and below the counter, which goes one
step beyond the last sequence at most (R7). -/
def SequenceLaw (s : State) : Prop :=
  1 ≤ s.engine.seqNext ∧ s.engine.seqNext ≤ Config.lastSequence + 1
    ∧ (∀ (i : Fin 128) (e : Entry), s.engine.slots[i].entry = some e →
        1 ≤ e.seq ∧ e.seq < s.engine.seqNext)
    ∧ ∀ (i j : Fin 128) (e f : Entry), s.engine.slots[i].entry = some e →
        s.engine.slots[j].entry = some f → e.seq = f.seq → i = j

/-- An entry's executed action is NOTICE exactly when its logged action is (R90); a configured
action is never NOTICE (R30), on which this rests. -/
def NoticeLaw (s : State) : Prop :=
  (∀ g : Fin 31, s.groups[g].configured ≠ .notice)
    ∧ ∀ (i : Fin 128) (e : Entry), s.engine.slots[i].entry = some e →
        (e.executed = .notice ↔ e.logged = .notice)

/-- The fields of groups 1 to 8 that GROUP-SET cannot change hold the values of R33 (R32). -/
def PolicyLaw (s : State) : Prop :=
  ∀ g : Byte, 1 ≤ g.toNat → g.toNat ≤ 8 →
    (groupOf s.groups g).enabled = true ∧ (groupOf s.groups g).latching = false
      ∧ (groupOf s.groups g).domain = (groupOf GroupRecord.resetTable g).domain
      ∧ (groupOf s.groups g).logged = (groupOf GroupRecord.resetTable g).logged
      ∧ (groupOf s.groups g).configurable = (groupOf GroupRecord.resetTable g).configurable
      ∧ (groupOf s.groups g).momentary = (groupOf GroupRecord.resetTable g).momentary
      ∧ ((groupOf s.groups g).configurable = false → (groupOf s.groups g).configured = .diagnostic)
      ∧ (g ≠ 7 → (groupOf s.groups g).burstThreshold = 0
          ∧ (groupOf s.groups g).burstWindow = 1000)

/-- Indices 126 and 127 hold only the TABLE FULL entries of code 1 and code 2, and no general entry
holds one (R5). -/
def ReservedLaw (s : State) : Prop :=
  (∀ (d : Domain) (e : Entry), s.engine.slots[tableFullIndex d].entry = some e →
      e.key = tableFullKey d)
    ∧ ∀ (i : Fin 128) (e : Entry) (d : Domain), i.val < Config.generalSize →
        s.engine.slots[i].entry = some e → e.key ≠ tableFullKey d

/-- FIELD entries never exceed 126 less UNIT_RESERVE (R88), with the laws this rests on: the fixed
fields of the groups (R32), the reserved indices and their domain UNIT (R5). -/
def SpaceLaw (s : State) : Prop :=
  PolicyLaw s ∧ ReservedLaw s
    ∧ (∀ (d : Domain) (e : Entry), s.engine.slots[tableFullIndex d].entry = some e →
        e.domain = .unit)
    ∧ standing s.engine.slots .field ≤ Config.generalSize - s.limits.reserve

/-- ACTIVE_OWN counts the active entries anchored at the location, ACTIVE_BELOW those anchored at
its strict configured descendants (R51). -/
def RollUpLaw (s : State) : Prop :=
  ∀ (j : Nat) (l : Location), s.topo.locs[j]? = some l →
    l.own = countEntries s.engine.slots (fun e => e.state.active && e.anchor == j)
      ∧ l.below = countEntries s.engine.slots
          (fun e => e.state.active && (ancestors s.topo.locs e.anchor).contains j)

/-- Outside a CLEAR-DOMAIN no entry carries the sweep mark (R179); inside one a marked entry is not
latching (R176) and lies at an index the sweep has not yet reached (R178). -/
def SweepLaw (s : State) : Prop :=
  match s.engine.sweep with
  | none => ∀ (i : Fin 128) (e : Entry), s.engine.slots[i].entry = some e → e.sweepMark = false
  | some sw =>
    sw.next < 16 ∧ ∀ (i : Fin 128) (e : Entry), s.engine.slots[i].entry = some e →
      e.sweepMark = true → e.latching = false ∧ Config.sweepWidth * sw.next ≤ i.val

/-- Record 0 is the root, PRESENT at every moment (R49), and the staging area keeps its implicit
root (R57). -/
def RootLaw (s : State) : Prop :=
  (∃ l, s.topo.locs[0]? = some l ∧ l.path = LocPath.root ∧ l.level = .root ∧ l.parent = 0
      ∧ l.agent = 0 ∧ l.presence = .present)
    ∧ s.topo.staged[0]? = some Staged.root

/-- A configurable path: well formed, without a channel (R47). -/
def LocPath.configurable (p : LocPath) : Bool := p.wellFormed && !p.hasChannel

/-- The paths of the map and of the staging area are configurable and distinct (R47, R58). -/
def PathLaw (s : State) : Prop :=
  (∀ p ∈ s.topo.locs.map (·.path), p.configurable = true)
    ∧ (∀ p ∈ s.topo.staged.map (·.path), p.configurable = true)
    ∧ (s.topo.locs.map (·.path)).Nodup ∧ (s.topo.staged.map (·.path)).Nodup

/-- How many of the four works that keep a command BUSY are under way: a request that waits, a
sweep, a commit, a restart to be completed. -/
def State.worksUnderWay (s : State) : Nat :=
  (if s.window.waiting then 1 else 0) + (if s.engine.sweep.isSome then 1 else 0)
    + (if s.topo.state = .committing then 1 else 0) + (if s.window.restart.isSome then 1 else 0)

/-- A command whose request may wait at the Table Engine (R197); CLEAR-DOMAIN's names a domain
(R175). -/
def State.requestNamed (s : State) : Prop :=
  s.window.cmd ∈ ([0x12, 0x23, 0x40, 0x41, 0x42, 0x43, 0x44, 0x50, 0x51, 0x52, 0x54, 0x55, 0x60] :
      List Byte)
    ∧ (s.window.cmd = 0x52 → (Domain.ofByte (s.window.argAt 0)).isSome)

/-- The window runs one command at a time (R12): while it is BUSY exactly one work is under way, and
otherwise none. -/
def OneCommandLaw (s : State) : Prop :=
  s.worksUnderWay = (if s.window.cmdState = .busy then 1 else 0)
    ∧ (s.window.waiting = true → s.requestNamed)

/-- The agent to which an entry of the link queue belongs (R111). -/
def LinkEntry.owner : LinkEntry → Byte
  | .report r => r.agent
  | .part a _ _ => a

/-- The agent addresses other than 0 of a list. -/
def heldAddresses (l : List Byte) : List Byte := l.filter (· != 0)

/-- The roster is in ascending address order (R109); an agent has at most one entry in the queue,
and is pending exactly while it stands there; at most one is a report entry (R111); an address is
held by one location (R58). -/
def QueueLaw (s : State) : Prop :=
  s.link.roster.Pairwise (fun x y => x.address.toNat < y.address.toNat)
    ∧ s.link.queue.countP LinkEntry.isReport ≤ 1
    ∧ (s.link.queue.map LinkEntry.owner).Nodup
    ∧ (∀ x ∈ s.link.roster,
        x.waiting = true ↔ x.address ∈ s.link.queue.map LinkEntry.owner)
    ∧ (∀ a ∈ s.link.queue.map LinkEntry.owner, ∃ x ∈ s.link.roster, x.address = a)
    ∧ (heldAddresses (s.topo.staged.map (·.agent))).Nodup
    ∧ (heldAddresses (s.topo.locs.map (·.agent))).Nodup

/-- The agent with an address is in the roster and not pending. -/
def notPending (s : State) (a : Byte) : Prop :=
  ∃ y ∈ s.link.roster, y.address = a ∧ y.waiting = false

/-- The agent come to, and the agent of a live exchange whose reply is not judged, are not pending
(R112); a live exchange stands in no other phase than its own round's, a round due after it, or
stopped; LDE is raised only for an exchange whose reply is not judged (R104), and an exchange whose
reply is judged keeps the line busy (R105). -/
def LineLaw (s : State) : Prop :=
  (s.link.phase = .calling → ∃ a, s.link.position = some a ∧ notPending s a)
    ∧ (s.link.phase = .polling → ∃ x, s.link.exchange = some x ∧ x.fate = .live
        ∧ s.link.position = some x.agent)
    ∧ (s.link.line = .sending → ∃ x, s.link.exchange = some x ∧ x.judged = false)
    ∧ ∀ x, s.link.exchange = some x →
        (x.fate = .live → x.judged = false → notPending s x.agent)
          ∧ (x.fate = .live → s.link.phase = .polling ∨ s.link.phase = .dueAfter
              ∨ s.link.phase = .stopped)
          ∧ (x.judged = true → s.link.line = .busy)

/-- The laws of the report link. -/
def LinkLaw (s : State) : Prop := QueueLaw s ∧ LineLaw s

end Sys2Proof.Machine
end

