-- ==== Sys2Proof/Certificates/Slice0/Obligations.lean ====
section
/-!
DEFINITION. The statements about the part, one Prop each, from the manual's rules file by file.
-/

section Statements

open Sys2Proof Sys2Proof.Machine

/-! ## The queue of steps -/

/-- The front of the queue is worked on the state with the queue's rest; on an empty queue the part
idles (the model's own queue: log entries 4 and 22). -/
def Obligations.StepTakesFront : Prop :=
  (∀ (c : Instr) (rest : List Instr) (s : State), s.pending = c :: rest →
      step s = exec c (s.withPending rest))
    ∧ ∀ s : State, s.pending = [] → step s = .next s

/-- Every step answers a next state, in every state, and leaves the queue to step. A step of the
part whose condition does not hold leaves the state as it is (the model's choice: log entry 3): the
end of a commit outside COMMITTING, a request that is not granted or not at the head of the link
queue, a sweep step without a sweep or before it is due, the end of a restart without one, a poll or
a round that is not due, an expiry that is not due, an end of an exchange without one, a reply or
the end of its window while a POLL is sent, and OVERRUN while not BUSY. -/
def Obligations.EveryStepGoesOn : Prop :=
  (∀ (i : Instr) (s : State), ∃ t, exec i s = .next t ∧ t.pending = s.pending)
  ∧ ∀ s : State,
    (s.topo.state ≠ .committing → exec .commitComplete s = .next s)
    ∧ (s.nextGrant ≠ some .link → ∀ i ∈ ([.reportRaise, .reportRestore, .reportArrive,
          .reportDepart, .lapseRequest, .linkRaise] : List Instr), exec i s = .next s)
    ∧ (∀ c ∈ ([(.reportRaise, 1), (.reportRestore, 2), (.reportArrive, 3), (.reportDepart, 4)] :
          List (Instr × Byte)),
        (∀ (r : Report) (rest : List LinkEntry), s.link.queue = .report r :: rest → r.kind ≠ c.2) →
        exec c.1 s = .next s)
    ∧ ((∀ (a : Byte) (c : Option Byte) (rest : List LinkEntry),
          s.link.queue ≠ .part a c true :: rest) → exec .lapseRequest s = .next s)
    ∧ ((∀ (a c : Byte) (lapse : Bool) (rest : List LinkEntry),
          s.link.queue ≠ .part a (some c) lapse :: rest) → exec .linkRaise s = .next s)
    ∧ (s.nextGrant ≠ some .verify → exec .verifyExpiryRequest s = .next s)
    ∧ (s.nextGrant ≠ some .window →
        exec .windowRequestGrant s = .next s ∧ exec .sweepStart s = .next s)
    ∧ (s.window.cmd ≠ 0x52 → exec .sweepStart s = .next s)
    ∧ (s.engine.sweep = none → exec .sweepStep s = .next s)
    ∧ (∀ sw, s.engine.sweep = some sw → sw.gapTaken = false →
        s.link.queue ≠ [] ∨ s.topo.verify.waiting = true → exec .sweepStep s = .next s)
    ∧ (s.window.restart = none → ∀ part, exec (.warmRestartComplete part) s = .next s)
    ∧ (s.link.line ≠ .sending →
        s.topo.state ≠ .loaded ∨ s.link.phase ≠ .calling ∨ s.link.exchange ≠ none
          ∨ s.link.line = .busy →
        exec .poll s = .next s)
    ∧ (s.topo.state ≠ .loaded ∨ s.link.roster = []
        ∨ (s.link.phase ≠ .due ∧ s.link.phase ≠ .dueAfter ∧ s.link.phase ≠ .gap 0)
        ∨ ((s.link.phase = .dueAfter ∨ s.link.phase = .gap 0) ∧ s.link.exchange ≠ none) →
        exec .roundStart s = .next s)
    ∧ (s.expiryDue = false → exec .verifyExpiry s = .next s)
    ∧ (s.link.exchange = none ∨ s.link.line = .sending → exec .replyWindowClose s = .next s)
    ∧ (s.link.line = .sending → ∀ stop bytes, exec (.replyJudge stop bytes) s = .next s)
    ∧ (s.window.cmdState ≠ .busy → exec .overrun s = .next s)

/-! ## Cold reset and the clock input -/

/-- COLD_RESET leaves every block in its state after cold reset, held there; a transaction on the
SPI port is cut off. RESETN is sampled on CLK, so without CLK its fall cuts off a transaction and
does no more, its rise is not seen, and the part leaves cold reset only where it is seen high and
power-up has ended. CLK_ABSENT and CLK_RESUMED move the clock input, and the sampling goes on with
it (all of it the model's choice: log entry 7). -/
def Obligations.InputsOfThePart : Prop :=
  ∀ s : State,
    (∀ (c : ResetCause), c = .powerUp ∨ s.clkPresent = true →
      exec (.coldReset c) s = .next { State.reset with
        port := if s.port = .released then .released else .cut
        inReset := true
        resetnLow := if c = .resetn then true else s.resetnLow
        poweringUp := if c = .powerUp then true else s.poweringUp
        clkPresent := s.clkPresent
        pending := s.pending })
    ∧ (s.clkPresent = false →
        exec (.coldReset .resetn) s = .next { s with
          resetnLow := true
          port := if s.port = .released then .released else .cut }
        ∧ exec .resetRelease s = .next { s with resetnLow := false, poweringUp := false })
    ∧ (s.clkPresent = true →
        exec .resetRelease s
          = .next { s with inReset := false, resetnLow := false, poweringUp := false })
    ∧ exec .clkAbsent s = .next { s with clkPresent := false }
    ∧ (s.resetnLow = false → exec .clkResumed s = .next { s with
        clkPresent := true, inReset := if s.poweringUp then s.inReset else false })
    ∧ (s.resetnLow = true → exec .clkResumed s = .next { State.reset with
        port := if s.port = .released then .released else .cut
        inReset := true
        resetnLow := true
        poweringUp := s.poweringUp
        clkPresent := true
        pending := s.pending })

/-- What each block holds after cold reset: the table, the groups, the map and the staging area, the
limits, the link, Release Control, the Summary Unit, the Command Window and the Stamp Clock. The
rotation position is the model's own (log entry 19). -/
def Obligations.StateAfterColdReset : Prop :=
  (∀ i : Fin 128, State.reset.engine.slots[i] = ⟨0, none⟩)
    ∧ State.reset.engine.seqNext = 1 ∧ State.reset.engine.seqSpent = false
    ∧ (∀ n : Fin 4, State.reset.engine.cursors[n] = ⟨.closed, 0, 0, .notice, none, 0, 0⟩)
    ∧ State.reset.engine.sweep = none ∧ State.reset.engine.lastGranted = .verify
    ∧ State.reset.groups.toList =
        [⟨true, .field, .diagnostic, true, .diagnostic, false, false, 0, 0, 1000, false⟩,
         ⟨true, .field, .diagnostic, true, .diagnostic, false, false, 1, 0, 1000, false⟩,
         ⟨true, .field, .notice, false, .diagnostic, false, false, 2, 0, 1000, true⟩,
         ⟨true, .field, .fatal, true, .fatal, true, false, 3, 0, 1000, false⟩,
         ⟨true, .field, .notice, false, .diagnostic, false, false, 4, 0, 1000, false⟩,
         ⟨true, .unit, .diagnostic, true, .diagnostic, false, false, 5, 0, 1000, false⟩,
         ⟨true, .field, .diagnostic, true, .diagnostic, false, false, 6, 0, 1000, false⟩,
         ⟨true, .unit, .diagnostic, true, .diagnostic, false, false, 7, 0, 1000, false⟩]
        ++ List.replicate 23
          ⟨false, .field, .diagnostic, true, .diagnostic, false, false, 15, 0, 1000, false⟩
    ∧ State.reset.topo =
        { state := .empty
          locs := [{ path := ⟨0xFF, 0x00, 0xFF, 0xFF⟩, level := .root, parent := 0, kind := 0,
                     agent := 0, limit := 3, presence := .present, own := 0, below := 0,
                     uMark := false, fMark := false }]
          staged := [{ path := ⟨0xFF, 0x00, 0xFF, 0xFF⟩, level := .root, parent := 0, kind := 0,
                       agent := 0, limit := 3 }]
          commitRetired := 0
          verify := { running := false, start := 0, waiting := false } }
    ∧ State.reset.limits = { reserve := 16, windowSteps := 30, pollGap := 2 }
    ∧ State.reset.link =
        { roster := [], queue := [], phase := .stopped, position := none, exchange := none,
          line := .idle }
    ∧ State.reset.release = { mode := .hold, state := .withheld, fatalCopy := 0 }
    ∧ State.reset.summary = { word := 0, unitNew := false, fieldNew := false }
    ∧ State.reset.window =
        { cmd := 0, cmdState := .idle, overrun := false, result := 0, cause := 0, enable := 0,
          counts := { unitStanding := 0, fieldStanding := 0, fatalHeld := 0, free := 126 },
          stampLatch := 0, arg := Vector.replicate 32 0, argCopy := Vector.replicate 32 0,
          resp := Vector.replicate 48 0, waiting := false, restart := none, heldSummary := none,
          heldCounts := none }
    ∧ State.reset.clock = 0

/-- In cold reset no step but those of the inputs has an effect, but that CSN moves the port: its
rise, with a command or with the last byte of a transaction, releases the port and drops the
transaction's snapshots, and a transaction that begins is cut off (its cut: log entry 17). That a
low RESETN which CLK has not sampled holds the steps in the same way is the model's choice: log
entry 7. While CLK is absent the part takes no command, sends and judges nothing on the link, and
its clock stands; a CMD write made then is dropped, with the end of its transaction (the model's
choice: log entry 5; the list of stopped steps is read from R203: log entry 6). -/
def Obligations.HeldSteps : Prop :=
  ∀ (i : Instr) (s risen : State) (command : Prop),
    (command ↔ isCommand i = true ∨ (i = .overrun ∧ s.window.cmdState = .busy)) →
    risen = { s with
      port := .released
      window := { s.window with heldSummary := none, heldCounts := none } } →
    (s.inReset = true ∨ s.resetnLow = true →
      (command → exec i s = .next risen)
      ∧ (∀ b : DataByte, i = .attnCauseWrite b ∨ i = .attnEnableWrite b ∨ (∃ a, i = .argWrite a b) →
        (b.csn = .only ∨ b.csn = .last → exec i s = .next risen)
        ∧ (b.csn = .first → exec i s = .next { s with port := .cut })
        ∧ (b.csn = .next → exec i s = .next s))
      ∧ (isInput i = false → ¬ command → (∀ b : DataByte, i ≠ .attnCauseWrite b
            ∧ i ≠ .attnEnableWrite b ∧ ∀ a, i ≠ .argWrite a b) →
        exec i s = .next s))
    ∧ (s.inReset = false → s.resetnLow = false → s.clkPresent = false →
      (command → exec i s = .next risen)
      ∧ (i ∈ ([.poll, .roundStart, .stampTick, .verifyExpiry, .replyWindowClose] : List Instr)
          ∨ (∃ stop bytes, i = .replyJudge stop bytes) → exec i s = .next s))

/-! ## The Command Window -/

/-- A CMD write while BUSY, whichever command it would give, sets the OVERRUN flag and the OVERRUN
cause and changes nothing else (its transaction and the transaction's snapshots end with it). -/
def Obligations.BusyRefusesCommands : Prop :=
  ∀ (i : Instr) (s : State), s.clocked = true → s.port ≠ .cut → s.window.cmdState = .busy →
    isCommand i = true ∨ i = .overrun →
    exec i s = .next { s with
      port := .released
      window := { s.window with
        overrun := true, cause := s.window.cause ||| 0x80, heldSummary := none,
        heldCounts := none } }

/-- A byte written to ATTN_CAUSE clears the causes whose bits are 1; to ATTN_ENABLE it replaces the
enables; to ARG it is stored; to any other address but CMD it is ignored. The byte opens its write
transaction or belongs to one that runs; a byte of one that cold reset has cut off is discarded, and
that no register takes a byte with no write transaction running is the model's choice (log entry
25). A read of 0x0C latches the clock; the row given outside a read transaction latches it as well,
the model's choice (log entry 17). What becomes of the port and of the snapshots is that of CSN. -/
def Obligations.WindowBytes : Prop :=
  ∀ (s : State) (b : DataByte) (runs : Prop), s.live = true →
    (runs ↔ b.csn = .only ∨ b.csn = .first ∨ ∃ a code, s.port = .writing a code) →
    ∀ moved : State → Window → Prop,
    (∀ t w, moved t w ↔ t = { s with
        port := t.port
        window := { w with
          heldSummary := t.window.heldSummary, heldCounts := t.window.heldCounts } }) →
    (∃ t, exec (.attnCauseWrite b) s = .next t
      ∧ (runs → moved t { s.window with cause := s.window.cause &&& ~~~b.value })
      ∧ (¬ runs → moved t s.window))
    ∧ (∃ t, exec (.attnEnableWrite b) s = .next t
      ∧ (runs → moved t { s.window with enable := b.value }) ∧ (¬ runs → moved t s.window))
    ∧ (∀ k : Fin 32, ∃ t, exec (.argWrite (BitVec.ofNat 7 (0x10 + k.val)) b) s = .next t
      ∧ (runs → moved t { s.window with arg := s.window.arg.set k.val b.value k.isLt })
      ∧ (¬ runs → moved t s.window))
    ∧ (∀ a : BitVec 7, Instr.argWriteOk a = true → a.toNat < 0x10 ∨ 0x2F < a.toNat →
      ∃ t, exec (.argWrite a b) s = .next t ∧ moved t s.window)
    ∧ (s.port ≠ .cut → exec .stampLatch s = .next { s with window.stampLatch := s.clock })
    ∧ (s.port = .cut → exec .stampLatch s = .next s)

/-- The SPI port: CSN opens a transaction; its first byte gives direction and first address; later
bytes concern one address after the other, modulo 128; a byte written to CMD waits for the rise of
CSN, which gives the last one. Bytes travel most significant bit first, and one cut short does
nothing. SDO is high impedance while CSN is high and in cold reset, 0 in a header and in a write,
and in a read the byte of the next address. A transaction that cold reset has cut off applies
nothing and gives no command. The model's choices: that one which begins in cold reset is cut off
too, and SDO's want of a level in a cut one after the reset (log entry 17); that all this holds
while RESETN is low and not yet sampled (log entry 7); the places of the table's rows among the
bytes (log entry 17). -/
def Obligations.SpiTransactions : Prop :=
  (∀ s : State, s.inReset = true ∨ s.resetnLow = true ∨ s.port = .released →
      s.sdo = .highZ ∧ ∀ b, spiByte b s = s)
    ∧ (∀ (s : State) (bits : List Bool), bits.length < 8 →
      spiBits bits s = (s.sdo.bits.take bits.length, s))
    ∧ (∀ (s : State) (b : Byte) (rest : List Bool),
      spiBits ([7, 6, 5, 4, 3, 2, 1, 0].map b.getLsbD ++ rest) s
        = (s.sdo.bits ++ (spiBits rest (spiByte b s)).1, (spiBits rest (spiByte b s)).2))
    ∧ (∀ v : Byte,
      (Sdo.drives v).bits = [7, 6, 5, 4, 3, 2, 1, 0].map fun n => .level (v.getLsbD n))
    ∧ Sdo.highZ.bits = List.replicate 8 .highZ
    ∧ (∀ (s : State) (b : Byte), s.port = .cut → spiByte b s = s)
    ∧ (∀ s : State, s.live = true →
      (s.port = .released → spiFall s = { s with port := .header })
      ∧ (s.port = .header → s.sdo = .drives 0 ∧ ∀ b : Byte, spiByte b s = { s with
          port := if b.toNat < 128 then .writing (BitVec.ofNat 7 b.toNat) none
            else .reading (BitVec.ofNat 7 (b.toNat - 128)) })
      ∧ (∀ a, s.port = .reading a →
          s.sdo = .drives (readAt a s).1
          ∧ (∀ b, spiByte b s = { (readAt a s).2 with port := .reading (a + 1) })
          ∧ (a = 0x0C → exec .stampLatch s = .next (readAt a s).2))
      ∧ (∀ a code, s.port = .writing a code → s.sdo = .drives 0 ∧ ∀ b : Byte,
          (a = 0x00 → spiByte b s = { s with port := .writing 0x01 (some b) })
          ∧ (a = 0x03 → exec (.attnCauseWrite ⟨b, .next⟩) s = .next (spiByte b s))
          ∧ (a = 0x04 → exec (.attnEnableWrite ⟨b, .next⟩) s = .next (spiByte b s))
          ∧ (Instr.argWriteOk a = true →
              exec (.argWrite a ⟨b, .next⟩) s = .next (spiByte b s))
          ∧ (spiByte b s).port = .writing (a + 1) (if a = 0x00 then some b else code))
      ∧ (∀ (e : EngineAt) (a : BitVec 7) (code : Byte), s.port = .writing a (some code) →
          spiRise e s = exec (commandOf e code) s))
    ∧ (∀ (e : EngineAt) (s : State), (∀ a code, s.port ≠ .writing a (some code)) →
        spiRise e s = .next { s with
          port := .released
          window := { s.window with heldSummary := none, heldCounts := none } })
    ∧ (∀ s : State, s.inReset = true ∨ s.resetnLow = true → s.port = .released →
        spiFall s = { s with port := .cut })
    ∧ (∀ (i : Instr) (s : State), s.clocked = true → s.port = .cut → isCommand i = true →
        exec i s = .next { s with
          port := .released
          window := { s.window with heldSummary := none, heldCounts := none } })
    ∧ ∀ (s : State) (b : DataByte) (i : Instr), s.live = true →
        i = .attnCauseWrite b ∨ i = .attnEnableWrite b ∨ (∃ a, i = .argWrite a b) →
        ∃ t, exec i s = .next t
          ∧ (b.csn = .only ∨ b.csn = .last → t.port = .released)
          ∧ (b.csn = .first → ∃ a, t.port = .writing a none)
          ∧ (b.csn = .next → s.port = .cut → t = s)

/-- The pins: ATTN is asserted exactly while an enabled cause is set, RELEASE is high exactly while
the release state is GRANTED, and in cold reset and while RESETN is low both are released or low.
What an address reads: CMD, CSTAT, RESULT, ATTN_CAUSE, ATTN_ENABLE, STATE, SUMMARY, the four counts,
STAMP, ARG, RESP, and 0 above the window; within a transaction SUMMARY and the counts are held from
the first read of them, and a read of 0x0C latches the clock, whose other bytes the latch then
shows. -/
def Obligations.PinsAndRegistersShow : Prop :=
  ∀ (s : State) (c : Counts), c = s.window.heldCounts.getD s.window.counts →
    (s.inReset = false → s.resetnLow = false →
      (s.attn = true ↔ s.window.cause &&& s.window.enable ≠ 0)
        ∧ (s.releasePin = true ↔ s.release.state = .granted))
    ∧ (s.inReset = true ∨ s.resetnLow = true → s.attn = false ∧ s.releasePin = false)
    ∧ readAt 0x00 s = (s.window.cmd, s)
    ∧ (readAt 0x01 s).1.toNat = s.window.cmdState.code.toNat + 128 * (bit s.window.overrun).toNat
    ∧ readAt 0x02 s = (s.window.result, s)
    ∧ readAt 0x03 s = (s.window.cause, s) ∧ readAt 0x04 s = (s.window.enable, s)
    ∧ (readAt 0x05 s).1.toNat = s.release.mode.code.toNat + 2 * s.release.state.code.toNat
        + 8 * s.topo.state.code.toNat + 32 * (bit s.engine.seqSpent).toNat
    ∧ (readAt 0x01 s).2 = s ∧ (readAt 0x05 s).2 = s
    ∧ readAt 0x06 s = (s.summary.word.extractLsb' 8 8,
        { s with window.heldSummary := some s.summary.word })
    ∧ readAt 0x07 s = ((s.window.heldSummary.getD s.summary.word).extractLsb' 0 8, s)
    ∧ readAt 0x08 s = (byte c.unitStanding, { s with window.heldCounts := some c })
    ∧ readAt 0x09 s = (byte c.fieldStanding, { s with window.heldCounts := some c })
    ∧ readAt 0x0A s = (byte c.fatalHeld, { s with window.heldCounts := some c })
    ∧ readAt 0x0B s = (byte c.free, { s with window.heldCounts := some c })
    ∧ readAt 0x0C s = (s.clock.extractLsb' 24 8, { s with window.stampLatch := s.clock })
    ∧ readAt 0x0D s = (s.window.stampLatch.extractLsb' 16 8, s)
    ∧ readAt 0x0E s = (s.window.stampLatch.extractLsb' 8 8, s)
    ∧ readAt 0x0F s = (s.window.stampLatch.extractLsb' 0 8, s)
    ∧ (∀ k : Fin 32, readAt (BitVec.ofNat 7 (0x10 + k.val)) s = (s.window.arg[k], s))
    ∧ (∀ k : Fin 48, readAt (BitVec.ofNat 7 (0x30 + k.val)) s = (s.window.resp[k], s))
    ∧ ∀ k : Fin 32, readAt (BitVec.ofNat 7 (0x60 + k.val)) s = (0, s)

/-- A code that names no command is taken and completed REFUSED with BAD_COMMAND, RESP all 0; 0x00
is such a code. Each code of R197's table gives its command, and every other code BAD_COMMAND. -/
def Obligations.CodesGiveCommands : Prop :=
  (∀ (code : Byte) (s : State), s.takes → Instr.badCommandOk code = true →
      exec (.badCommand code) s = .next (s.completed code 0x01 []))
    ∧ Instr.badCommandOk 0x00 = true
    ∧ ∀ e : EngineAt,
      (∀ code : Byte, Instr.badCommandOk code = true → commandOf e code = .badCommand code)
      ∧ [0x10, 0x11, 0x12, 0x22, 0x23, 0x24, 0x30, 0x31, 0x40, 0x41, 0x42, 0x43, 0x44, 0x45, 0x50,
          0x51, 0x52, 0x53, 0x54, 0x55, 0x60].map (commandOf e)
        = [.topoBegin, .topoPut, .topoCommit e, .groupSet, .setLimits e, .setStamp, .setMode,
           .grant, .lookup e, .get e, .listOpen e, .listNext e, .listClose e, .agentInfo, .ack e,
           .ackAll e, .clearDomain, .clearSummary, .raiseApp e, .restoreApp e, .warmRestart e]
      ∧ ∀ code : Byte, Instr.badCommandOk code = false ↔
          code ∈ ([0x10, 0x11, 0x12, 0x22, 0x23, 0x24, 0x30, 0x31, 0x40, 0x41, 0x42, 0x43, 0x44,
            0x45, 0x50, 0x51, 0x52, 0x53, 0x54, 0x55, 0x60] : List Byte)

/-- A window request that is not granted at its taking keeps the window BUSY and waits, with nothing
else changed; its later grant does what a grant at the taking would have done. Wherever the window
waits and is granted, the request does what its command, taken then with the copied arguments as
ARG, would do, and leaves ARG, OVERRUN, the port and a running transaction's snapshots as they are.
Whether the engine is free at the taking is the model's operand (log entry 2). -/
def Obligations.WindowRequestsWaitAndAreGranted : Prop :=
  (∀ (c : (EngineAt → Instr) × Byte) (s : State), c ∈ requestCommands → s.takes →
    (∀ e : EngineAt, e = .engaged ∨ ¬ s.grantsWindow →
      exec (c.1 e) s = .next (s.waitsWith c.2))
    ∧ (s.grantsWindow →
        ∃ u, exec .windowRequestGrant (s.waitsWith c.2) = .next u ∧ exec (c.1 .free) s = .next u
          ∧ u.engine.lastGranted = .window ∧ u.window.waiting = false))
  ∧ ∀ (c : (EngineAt → Instr) × Byte) (u s : State), c ∈ requestCommands → u.live = true →
    u.window.waiting = true → u.window.cmd = c.2 → u.nextGrant = some .window →
    s = { u with
      port := .released
      clkPresent := true
      window := { u.window with arg := u.window.argCopy, cmdState := .idle } } →
    ∃ t, exec (c.1 .free) s = .next t
      ∧ exec .windowRequestGrant u = .next { t with
          port := u.port
          clkPresent := u.clkPresent
          window := { t.window with
            arg := u.window.arg, overrun := u.window.overrun,
            heldSummary := u.window.heldSummary, heldCounts := u.window.heldCounts,
            result := if t.window.cmdState = .busy then u.window.result else t.window.result,
            resp := if t.window.cmdState = .busy then u.window.resp else t.window.resp,
            cmdState := if t.window.cmdState = .busy then u.window.cmdState
              else t.window.cmdState } }

/-- The rotation: with no commit at work and no gap used up, the source granted next is the first
waiting one that follows the source granted last in the order link, window, verify timer. -/
def Obligations.GrantsRotate : Prop :=
  ∀ s : State, s.engineOpen = true →
    (s.engine.lastGranted = .verify → s.nextGrant =
        if s.waits .link then some .link else if s.waits .window then some .window
        else if s.waits .verify then some .verify else none)
      ∧ (s.engine.lastGranted = .link → s.nextGrant =
          if s.waits .window then some .window else if s.waits .verify then some .verify
          else if s.waits .link then some .link else none)
      ∧ (s.engine.lastGranted = .window → s.nextGrant =
          if s.waits .verify then some .verify else if s.waits .link then some .link
          else if s.waits .window then some .window else none)

/-! ## Topology -/

/-- TOPO-BEGIN empties the staging area to the implicit root and completes OK with the counts 1 and
0; nothing else outside the window changes. TOPO-PUT: the path and level of a form of R47, the agent
address and the miss limit in their ranges; then the first check that fails answers it and leaves
staging as it was; past every check the record joins staging at the next index. The response gives
the index concerned and the staging counts after the command. -/
def Obligations.StagingCommandsAnswer : Prop :=
  (∀ s : State, s.takes →
    exec .topoBegin s
      = .next { s.completed 0x10 0x00 [0, 1, 0] with topo.staged := [Staged.root] })
  ∧ ∀ (s : State) (station bay node channel level : Byte) (formed : Prop)
    (agents : List Staged → Nat) (answer : Nat → List Staged → List Byte), s.takes →
    (∀ l, agents l = l.countP (·.agent != 0)) →
    (∀ i l, answer i l = be16 i ++ be16 l.length ++ [byte (agents l)]) →
    s.arguments.argPath 0 = ⟨station, bay, node, channel⟩ → level = s.arguments.argAt 4 →
    (formed ↔ channel = 0xFF ∧ (s.arguments.argAt 6).toNat ≤ 62
      ∧ (s.arguments.argAt 7).toNat ≤ 15
      ∧ ((station = 0xFF ∧ bay = 0 ∧ node = 0xFF ∧ level = 0)
        ∨ (station.toNat ≤ 11 ∧ bay = 0 ∧ node = 0xFF ∧ level = 1)
        ∨ (station.toNat ≤ 11 ∧ 1 ≤ bay.toNat ∧ bay.toNat ≤ 15 ∧ node = 0xFF ∧ level = 2)
        ∨ (station.toNat ≤ 11 ∧ 1 ≤ bay.toNat ∧ bay.toNat ≤ 15 ∧ node.toNat ≤ 127
            ∧ level = 3))) →
    (¬ formed →
        exec .topoPut s = .next (s.completed 0x11 0x02 (answer 0 s.topo.staged)))
    ∧ (formed →
      (∀ i, stagedIndex s.topo.staged (s.arguments.argPath 0) = some i →
          exec .topoPut s = .next (s.completed 0x11 0x0A (answer i s.topo.staged)))
      ∧ (stagedIndex s.topo.staged (s.arguments.argPath 0) = none →
        (stagedIndex s.topo.staged (s.arguments.argPath 0).parent = none →
            exec .topoPut s = .next (s.completed 0x11 0x0B (answer 0 s.topo.staged)))
        ∧ ∀ k, stagedIndex s.topo.staged (s.arguments.argPath 0).parent = some k →
          (320 ≤ s.topo.staged.length →
              exec .topoPut s = .next (s.completed 0x11 0x0C (answer 0 s.topo.staged)))
          ∧ (s.topo.staged.length < 320 →
            (∀ i, s.arguments.argAt 6 ≠ 0 →
                s.topo.staged.findIdx? (·.agent == s.arguments.argAt 6) = some i →
                exec .topoPut s = .next (s.completed 0x11 0x0D (answer i s.topo.staged)))
            ∧ (s.arguments.argAt 6 ≠ 0 →
                s.topo.staged.findIdx? (·.agent == s.arguments.argAt 6) = none →
                24 ≤ agents s.topo.staged →
                exec .topoPut s = .next (s.completed 0x11 0x0E (answer 0 s.topo.staged)))
            ∧ (s.arguments.argAt 6 ≠ 0 →
                s.topo.staged.findIdx? (·.agent == s.arguments.argAt 6) = none →
                agents s.topo.staged < 24 →
                (s.arguments.argPath 0).level ≠ .station → (s.arguments.argPath 0).level ≠ .bay →
                exec .topoPut s = .next (s.completed 0x11 0x02 (answer 0 s.topo.staged)))
            ∧ (s.arguments.argAt 6 = 0
                ∨ (s.topo.staged.findIdx? (·.agent == s.arguments.argAt 6) = none
                    ∧ agents s.topo.staged < 24
                    ∧ ((s.arguments.argPath 0).level = .station
                      ∨ (s.arguments.argPath 0).level = .bay)) →
                ∀ staged, staged = s.topo.staged ++
                    [{ path := s.arguments.argPath 0, level := (s.arguments.argPath 0).level,
                       parent := k, kind := s.arguments.argAt 5, agent := s.arguments.argAt 6,
                       limit := if s.arguments.argAt 7 = 0 then 3
                         else (s.arguments.argAt 7).toNat }] →
                  exec .topoPut s
                    = .next { s.completed 0x11 0x00 (answer s.topo.staged.length staged) with
                        topo.staged := staged }))))

/-- TOPO-COMMIT is refused in RUN, and while a latching FIELD entry stands, with nothing else
changed. Otherwise it enters COMMITTING: FIELD entries are retired, each with its hysteresis check
of the TABLE FULL entries, and counted, UNIT entries kept and anchored at the root, the staged map
installed, the cursors closed, the verify window and the link queue dropped; an expiry that is due
already sets its cause first (log entry 30). -/
def Obligations.TopoCommitAtItsGrant : Prop :=
  ∀ s : State, s.takes → s.grantsWindow →
    (s.release.mode = .run → exec (.topoCommit .free) s = .next (s.answered 0x12 0x03 []))
    ∧ (s.release.mode = .hold →
      ((∃ (i : Fin 128) (e : Entry), s.engine.slots[i].entry = some e ∧ e.domain = .field
            ∧ e.latching = true) →
          exec (.topoCommit .free) s = .next (s.answered 0x12 0x09 []))
      ∧ ((∀ (i : Fin 128) (e : Entry), s.engine.slots[i].entry = some e → e.domain = .field →
            e.latching = false) →
          ∃ t, exec (.topoCommit .free) s = .next t
            ∧ t.topo.state = .committing
            ∧ t.topo.commitRetired = standing s.engine.slots .field
            ∧ (∀ (i : Fin 128) (e : Entry), t.engine.slots[i].entry = some e →
                e.domain = .unit ∧ e.anchor = 0 ∧ e.sweepMark = false)
            ∧ (∀ (i : Fin 128) (e : Entry), i.val < 126 → s.engine.slots[i].entry = some e →
                (e.domain = .unit → t.engine.slots[i]
                  = ⟨s.engine.slots[i].gen, some { e with anchor := 0, sweepMark := false }⟩)
                ∧ (e.domain = .field →
                    t.engine.slots[i] = ⟨s.engine.slots[i].gen + 1, none⟩))
            ∧ (∀ (d : Domain) (sl : Slot),
                (∀ (x : Domain) (e : Entry), s.engine.slots[tableFullIndex x].entry = some e →
                  e.domain = .unit) →
                sl = s.engine.slots[tableFullIndex d].eased
                  (decide (0 < standing s.engine.slots .field
                    ∧ 4 ≤ usableFree t.engine.slots s.limits.reserve d)) →
                t.engine.slots[tableFullIndex d]
                  = ⟨sl.gen, sl.entry.map fun e => { e with anchor := 0, sweepMark := false }⟩)
            ∧ t.engine.seqNext = s.engine.seqNext
            ∧ t.engine.cursors = Vector.replicate 4 Cursor.closed
            ∧ t.topo.locs.length = s.topo.staged.length
            ∧ (∀ (i : Nat) (x : Staged), s.topo.staged[i]? = some x → t.topo.locs[i]? = some
                { path := x.path, level := x.level, parent := x.parent, kind := x.kind,
                  agent := x.agent, limit := x.limit,
                  presence := if i = 0 then .present else .unverified,
                  own := if i = 0 then countEntries t.engine.slots (·.state.active) else 0,
                  below := 0, uMark := false, fMark := false })
            ∧ t.topo.staged = [Staged.root]
            ∧ t.topo.verify.running = false ∧ t.topo.verify.waiting = false
            ∧ t.link.queue = [] ∧ (∀ x ∈ t.link.roster, x.waiting = false)
            ∧ t.link.phase = .stopped
            ∧ t.link.position = none ∧ t.link.line = s.link.line
            ∧ t.link.exchange = s.link.exchange.map (fun x =>
                { x with fate := if x.fate = .live then .busyOnly else x.fate })
            ∧ t.port = .released
            ∧ t.window = { s.window.busyWith 0x12 with
                waiting := false
                cause := s.window.cause ||| (if s.expiryDue then 0x40 else 0) }
            ∧ t.groups = s.groups ∧ t.limits = s.limits ∧ t.release = s.release
            ∧ t.summary = s.summary ∧ t.clock = s.clock))

/-- The end of a commit: the roster is built from the map, one record for each location that carries
an agent, in ascending address order; the verify window starts, the state is LOADED, the counts are
handed out and the command completes OK. An exchange still on the line is dropped. -/
def Obligations.CommitEndsLoaded : Prop :=
  ∀ s : State, s.live = true → s.topo.state = .committing →
    ∃ t, exec .commitComplete s = .next t
      ∧ t.topo = { s.topo with
          state := .loaded, commitRetired := 0, verify := ⟨true, s.clock, false⟩ }
      ∧ (∀ x : Agent, x ∈ t.link.roster ↔ ∃ (i : Nat) (l : Location), s.topo.locs[i]? = some l
          ∧ l.agent ≠ 0
          ∧ x = { address := l.agent, home := i, state := .offline, misses := 0, limit := l.limit,
                  lastSeq := 0, stored := (0, .none), waiting := false })
      ∧ ((heldAddresses (s.topo.locs.map (·.agent))).Nodup →
          t.link.roster.Pairwise (fun x y => x.address.toNat < y.address.toNat))
      ∧ t.link.roster.length = s.topo.locs.countP (·.agent != 0)
      ∧ t.link.queue = []
      ∧ t.link.phase = (if t.link.roster = [] then .stopped else .due)
      ∧ t.link.position = none ∧ t.link.line = s.link.line
      ∧ t.link.exchange = s.link.exchange.map (fun x => { x with fate := .dropped })
      ∧ t.window.counts = Counts.of s.engine.slots
      ∧ t.release = s.release.handOff (fatalHeld s.engine.slots)
      ∧ t.window.cmdState = .done ∧ t.window.result = 0
      ∧ t.window.resp = respOf (byte s.topo.commitRetired :: be16 s.topo.locs.length
          ++ [byte t.link.roster.length])
      ∧ t.window.cause &&& 0x20 = 0x20
      ∧ t.engine = s.engine ∧ t.groups = s.groups ∧ t.limits = s.limits
      ∧ t.summary = s.summary ∧ t.clock = s.clock

/-! ## Configuration and release -/

/-- GROUP-SET: refused in RUN, for a number or a field out of range, and where a fixed field of
groups 1 to 8 differs; otherwise every field of the record is written. The response holds the
record, or zeros for a number out of range. -/
def Obligations.GroupSetAnswers : Prop :=
  ∀ (s : State) (g : Byte) (a : Nat → Byte) (window : Nat) (held : GroupRecord), s.takes →
    a = s.arguments.argAt → g = a 0 → window = (a 10).toNat * 256 + (a 11).toNat →
    held = groupOf s.groups g →
    (1 ≤ g.toNat ∧ g.toNat ≤ 31 → s.release.mode = .run →
        exec .groupSet s = .next (s.completed 0x22 0x03 (held.bytes g)))
    ∧ (g = 0 ∨ 31 < g.toNat → exec .groupSet s
        = .next (s.completed 0x22 (if s.release.mode = .run then 0x03 else 0x02) []))
    ∧ (1 ≤ g.toNat → g.toNat ≤ 31 → s.release.mode = .hold →
      ∀ ranges : Prop,
      (ranges ↔ (a 1).toNat ≤ 1 ∧ (a 2).toNat ≤ 1 ∧ (a 3).toNat ≤ 2 ∧ (a 4).toNat ≤ 1
        ∧ (a 5 = 1 ∨ a 5 = 2) ∧ (a 6).toNat ≤ 1 ∧ (a 7).toNat ≤ 1 ∧ (a 8).toNat ≤ 15
        ∧ a 9 ≠ 1 ∧ 10 ≤ window ∧ window ≤ 60000 ∧ (a 12).toNat ≤ 1) →
      (¬ ranges → exec .groupSet s = .next (s.completed 0x22 0x02 (held.bytes g)))
      ∧ (ranges → ∃ new : GroupRecord,
        new.bytes g = [g, a 1, a 2, a 3, a 4, a 5, a 6, a 7, a 8, a 9, a 10, a 11, a 12]
        ∧ new.burstWindow.toNat = window
        ∧ ∀ fixed : Prop,
          (fixed ↔ 8 < g.toNat ∨ (new.enabled = held.enabled ∧ new.domain = held.domain
            ∧ new.logged = held.logged ∧ new.configurable = held.configurable
            ∧ new.latching = held.latching ∧ new.momentary = held.momentary
            ∧ (g ≠ 7 → new.burstThreshold = held.burstThreshold
                ∧ new.burstWindow = held.burstWindow)
            ∧ (held.configurable = false → new.configured = held.configured))) →
          (¬ fixed → exec .groupSet s = .next (s.completed 0x22 0x02 (held.bytes g)))
          ∧ (fixed → ∃ t, exec .groupSet s = .next t
              ∧ t = { s.completed 0x22 0x00 (new.bytes g) with groups := t.groups }
              ∧ ∀ h : Byte, 1 ≤ h.toNat → h.toNat ≤ 31 →
                groupOf t.groups h = if h = g then new else groupOf s.groups h)))

/-- SET-LIMITS: refused in RUN, for a value out of range, and where the standing FIELD entries
exceed the new bound; otherwise the limits are written and the hysteresis check for FIELD follows a
change of the reserve. The response gives the limits and the space picture: the FREE general
entries, the usable free counts of UNIT and FIELD, and the standing FIELD entries. The verify window
expires where the old or the new length has been reached (log entry 8), one that is due already
before the limits change (log entry 30). -/
def Obligations.SetLimitsAnswers : Prop :=
  (∀ (x : Vector Slot 128) (reserve : Nat),
    usableFree x reserve .unit
        = (List.finRange 128).countP (fun i => decide (i.val < 126) && x[i].entry.isNone)
      ∧ usableFree x reserve .field = usableFree x reserve .unit - reserve)
  ∧ ∀ (s : State) (reserve steps gap : Nat) (picture : Limits → Vector Slot 128 → List Byte),
    s.takes → s.grantsWindow →
    (∀ l x, picture l x = [byte l.reserve, byte l.windowSteps, byte l.pollGap,
      byte (usableFree x l.reserve .unit), byte (usableFree x l.reserve .unit),
      byte (usableFree x l.reserve .field), byte (standing x .field)]) →
    reserve = (s.arguments.argAt 0).toNat → steps = (s.arguments.argAt 1).toNat →
    gap = (s.arguments.argAt 2).toNat →
    (s.release.mode = .run →
        exec (.setLimits .free) s = .next (s.answered 0x23 0x03 (picture s.limits s.engine.slots)))
    ∧ (s.release.mode = .hold →
      (32 < reserve ∨ steps = 0 ∨ 100 < gap →
          exec (.setLimits .free) s
            = .next (s.answered 0x23 0x02 (picture s.limits s.engine.slots)))
      ∧ (reserve ≤ 32 → 1 ≤ steps → gap ≤ 100 →
        (126 - reserve < standing s.engine.slots .field →
            exec (.setLimits .free) s
              = .next (s.answered 0x23 0x0F (picture s.limits s.engine.slots)))
        ∧ (standing s.engine.slots .field ≤ 126 - reserve →
          ∃ t, exec (.setLimits .free) s = .next t
            ∧ t.limits = ⟨reserve, steps, gap⟩
            ∧ t.window.cmdState = .done ∧ t.window.result = 0
            ∧ t.window.resp = respOf (picture t.limits t.engine.slots)
            ∧ (∀ i : Fin 128, i.val ≠ 127 → t.engine.slots[i] = s.engine.slots[i])
            ∧ t.engine.slots[(127 : Fin 128)] = s.engine.slots[(127 : Fin 128)].eased
                (decide (reserve ≠ s.limits.reserve
                  ∧ 4 ≤ usableFree s.engine.slots reserve .field))
            ∧ t.engine = { (granted .window s).engine with slots := t.engine.slots }
            ∧ t.window.counts = Counts.of t.engine.slots
            ∧ t.release = s.release.handOff (fatalHeld t.engine.slots)
            ∧ t.window.enable = s.window.enable ∧ t.window.arg = s.window.arg
            ∧ t.groups = s.groups ∧ t.link = s.link ∧ t.summary = s.summary ∧ t.clock = s.clock
            ∧ t.topo.state = s.topo.state ∧ t.topo.staged = s.topo.staged
            ∧ (∀ expires : Prop,
                (expires ↔ s.topo.verify.running = true
                  ∧ (100 * s.limits.windowSteps ≤ (s.clock - s.topo.verify.start).toNat
                    ∨ 100 * steps ≤ (s.clock - s.topo.verify.start).toNat)) →
                (expires → t.topo.verify = ⟨false, s.topo.verify.start, true⟩
                  ∧ t.window.cause &&& 0x40 = 0x40)
                ∧ (¬ expires → t.topo.verify = s.topo.verify
                  ∧ t.window.cause &&& 0x40 = s.window.cause &&& 0x40)))))

/-- SET-STAMP loads the clock and completes OK with the value; recorded stamps and the stamp latch
stay. Where a running verify window's elapsed time then reaches its length, it expires at once (log
entry 8); an expiry that was due before the load is not lost by it (the model's choice: log entry
30). -/
def Obligations.SetStampLoadsClock : Prop :=
  ∀ (s t : State), s.takes →
    t = { s.completed 0x24 0x00
            ((List.range 4).map s.arguments.argAt) with
          clock := (s.arguments.argAt 0 ++ s.arguments.argAt 1 ++ s.arguments.argAt 2
            ++ s.arguments.argAt 3 : BitVec 32) } →
    (s.expiryDue = false → t.expiryDue = false → exec .setStamp s = .next t)
    ∧ (s.expiryDue = true ∨ t.expiryDue = true → exec .setStamp s = .next { t with
        topo.verify := ⟨false, t.topo.verify.start, true⟩
        window.cause := t.window.cause ||| 0x40 })

/-- SET-MODE: BAD_ARGUMENT for a byte above 1, NO_TOPOLOGY for RUN unless LOADED. RUN leaves the
release state; HOLD moves GRANTED to WITHHELD and no other state, and no TRIP cause is set. -/
def Obligations.SetModeAnswers : Prop :=
  ∀ s : State, s.takes →
    (1 < (s.arguments.argAt 0).toNat →
        exec .setMode s = .next (s.completed 0x30 0x02 (releaseResponse s)))
    ∧ (s.arguments.argAt 0 = 1 → s.topo.state ≠ .loaded →
        exec .setMode s = .next (s.completed 0x30 0x04 (releaseResponse s)))
    ∧ (s.arguments.argAt 0 = 1 → s.topo.state = .loaded →
        exec .setMode s = .next { s.completed 0x30 0x00
            [1, s.release.state.code, byte s.release.fatalCopy, 1] with
          release := { s.release with mode := .run } })
    ∧ (s.arguments.argAt 0 = 0 →
        ∀ r : ReleaseState,
          r = (if s.release.state = .granted then .withheld else s.release.state) →
        exec .setMode s = .next { s.completed 0x30 0x00
            [0, r.code, byte s.release.fatalCopy, s.topo.state.code] with
          release := { s.release with mode := .hold, state := r } })

/-- GRANT: the checks in their order; past them the release state is GRANTED, RELEASE is active, and
nothing else outside the window changes. -/
def Obligations.GrantAnswers : Prop :=
  ∀ s : State, s.takes →
    (s.release.fatalCopy ≠ 0 →
        exec .grant s = .next (s.completed 0x31 0x08 (releaseResponse s)))
    ∧ (s.release.fatalCopy = 0 →
      (s.release.mode ≠ .run →
          exec .grant s = .next (s.completed 0x31 0x03 (releaseResponse s)))
      ∧ (s.release.mode = .run →
        (s.topo.state ≠ .loaded →
            exec .grant s = .next (s.completed 0x31 0x04 (releaseResponse s)))
        ∧ (s.topo.state = .loaded →
          (s.release.state = .granted →
              exec .grant s = .next (s.completed 0x31 0x07 (releaseResponse s)))
          ∧ (s.release.state ≠ .granted →
              ∃ t, exec .grant s = .next t ∧ t.releasePin = true
                ∧ t = { s.completed 0x31 0x00 [1, 1, 0, 1] with
                    release := { s.release with state := .granted } }))))

/-! ## Reading -/

/-- LOOKUP answers BAD_ARGUMENT for a malformed path, OK for a configured one and NOT_CONFIGURED
otherwise, with the fault picture of its anchor, the nearest configured location on the path, and
changes nothing else. The six flags: configured, CUT of the path and of the anchor (some strict
configured ancestor is ABSENT), the anchor's marks, and FAULT of the anchor. -/
def Obligations.LookupAnswers : Prop :=
  ∀ (s : State) (p : LocPath) (a : Nat) (l : Location) (f : Byte) (cutAt : Nat → Prop),
    s.takes → s.grantsWindow → p = s.arguments.argPath 0 → RootLaw s → PathLaw s →
    (∀ i, cutAt i ↔ ∃ n, n < 3 ∧ (∀ m, m ≤ n → (parentOf s.topo.locs)^[m] i ≠ 0)
        ∧ ∃ k, s.topo.locs[(parentOf s.topo.locs)^[n + 1] i]? = some k ∧ k.presence = .absent) →
    (p.wellFormed = false → exec (.lookup .free) s = .next (s.answered 0x40 0x02 []))
    ∧ (p.wellFormed = true → s.topo.locs[a]? = some l → l.path.covers p = true →
        (∀ m ∈ s.topo.locs, m.path.covers p = true → m.path.covers l.path = true) →
        (f.getLsbD 0 = true ↔ l.path = p) →
        (f.getLsbD 1 = true ↔ (l.path ≠ p ∧ l.presence = .absent) ∨ cutAt a) →
        (f.getLsbD 2 = true ↔ cutAt a) →
        f.getLsbD 3 = l.uMark → f.getLsbD 4 = l.fMark →
        (f.getLsbD 5 = true ↔ 0 < l.own ∨ 0 < l.below ∨ cutAt a ∨ l.uMark = true
            ∨ l.fMark = true) →
        f.getLsbD 6 = false → f.getLsbD 7 = false →
        exec (.lookup .free) s = .next
          (s.answered 0x40 (if l.path = p then 0x00 else 0x10)
            (f :: l.path.bytes ++ be16 a
              ++ [l.level.code, l.presence.code, byte l.own, byte l.below,
                  byte (countEntries s.engine.slots fun e => e.state.active && e.key.path == p),
                  l.kind, l.agent])))

/-- GET answers the entry view to a handle that matches, STALE_HANDLE to one that does not, and
BAD_ARGUMENT to an index above 127, and changes nothing else. The 47 bytes of the entry view, by
offset. -/
def Obligations.GetAnswers : Prop :=
  (∀ s : State, s.takes → s.grantsWindow →
    (127 < (s.arguments.argAt 0).toNat →
        exec (.get .free) s = .next (s.answered 0x41 0x02 []))
    ∧ ∀ i : Fin 128, i.val = (s.arguments.argAt 0).toNat →
      (∀ e : Entry, s.engine.slots[i] = ⟨s.arguments.argAt 1, some e⟩ →
          exec (.get .free) s = .next
            (s.answered 0x41 0x00 (e.view i.val (s.arguments.argAt 1))))
      ∧ ((∀ e : Entry, s.engine.slots[i] ≠ ⟨s.arguments.argAt 1, some e⟩) →
          exec (.get .free) s = .next (s.answered 0x41 0x05 [])))
  ∧ ∀ (i : Nat) (gen : Byte) (e : Entry) (v : Nat → Byte), v = (fun n => (e.view i gen).getD n 0) →
    (e.view i gen).length = 47 ∧ v 0 = BitVec.ofNat 8 i ∧ v 1 = gen
    ∧ (v 2 ++ v 3 ++ v 4 ++ v 5 : BitVec 32) = BitVec.ofNat 32 e.seq
    ∧ e.key.path = ⟨v 6, v 7, v 8, v 9⟩ ∧ v 10 = e.key.group ∧ v 11 = e.key.code
    ∧ v 12 = (match e.state with | .activeUnack => 1 | .activeAck => 2 | .clearedUnack => 3)
    ∧ (v 13).extractLsb' 0 2 = (match e.logged with | .notice => 0 | .diagnostic => 1 | .fatal => 2)
    ∧ (v 13).extractLsb' 2 2
        = (match e.executed with | .notice => 0 | .diagnostic => 1 | .fatal => 2)
    ∧ (v 13).getLsbD 4 = e.escalated ∧ (v 13).getLsbD 5 = e.latching
    ∧ (v 13).getLsbD 6 = e.sweepMark ∧ ((v 13).getLsbD 7 = true ↔ e.domain = .field)
    ∧ v 14 = (match e.origin with | .part => 0 | .controller => 0x80 | .agent n => n)
    ∧ (v 15 ++ v 16 : BitVec 16) = BitVec.ofNat 16 e.occ
    ∧ (v 17 ++ v 18 ++ v 19 ++ v 20 : BitVec 32) = e.first
    ∧ (v 21 ++ v 22 ++ v 23 ++ v 24 : BitVec 32) = e.last
    ∧ v 25 = BitVec.ofNat 8 e.burstCount ∧ v 26 = BitVec.ofNat 8 e.detail.length
    ∧ ∀ k : Nat, k < 20 → v (27 + k) = e.detail.getD k 0

/-- LIST-OPEN refuses an argument out of range and leaves the cursor; otherwise the cursor opens
with its filter, the bound one below the counter and last 0, and the response counts the entries
that match the filter. -/
def Obligations.ListOpenAnswers : Prop :=
  ∀ (s : State) (a : Nat → Byte) (ranges : Prop), s.takes → s.grantsWindow →
    a = s.arguments.argAt →
    (ranges ↔ (a 0).toNat ≤ 3 ∧ 1 ≤ (a 1).toNat ∧ (a 1).toNat ≤ 3 ∧ 1 ≤ (a 2).toNat
      ∧ (a 2).toNat ≤ 7 ∧ (a 3).toNat ≤ 2
      ∧ (a 4 = 0 ∨ (a 4 = 1 ∧ (s.arguments.argPath 5).wellFormed = true))) →
    (¬ ranges → exec (.listOpen .free) s = .next (s.answered 0x42 0x02 []))
    ∧ (ranges → ∃ c : Cursor,
        c.state = .opened ∧ c.domainMask = a 1 ∧ c.stateMask = a 2 ∧ c.minimum.code = a 3
        ∧ c.subtree = (if a 4 = 0 then none else some (s.arguments.argPath 5))
        ∧ c.bound = s.engine.seqNext - 1 ∧ c.last = 0
        ∧ exec (.listOpen .free) s = .next
            (setCursor (a 0) c
              (s.answered 0x42 0x00 (a 0 :: be32 c.bound
                ++ [byte (countEntries s.engine.slots fun e =>
                    c.matches e && decide (e.seq ≤ c.bound))]))))

/-- LIST-NEXT returns the matching entry of lowest sequence above the cursor's last and at most its
bound, and moves the last to it; with none it answers END. An entry matches by its domain, its
state, its executed action and its key path. LIST-CLOSE closes the named cursor from any state and
completes OK with its number. A number above 3 is BAD_ARGUMENT to both. -/
def Obligations.ListNextAndCloseAnswer : Prop :=
  (∀ (c : Cursor) (e : Entry), c.matches e = true ↔
    c.domainMask.getLsbD (match e.domain with | .unit => 0 | .field => 1) = true
    ∧ c.stateMask.getLsbD
        (match e.state with | .activeUnack => 0 | .activeAck => 1 | .clearedUnack => 2) = true
    ∧ (c.minimum = .notice ∨ e.executed = .fatal
        ∨ (c.minimum = .diagnostic ∧ e.executed = .diagnostic))
    ∧ ∀ q, c.subtree = some q → (q.station = 0xFF ∨ q.station = e.key.path.station)
        ∧ (q.bay = 0 ∨ q.bay = e.key.path.bay) ∧ (q.node = 0xFF ∨ q.node = e.key.path.node)
        ∧ (q.channel = 0xFF ∨ q.channel = e.key.path.channel))
  ∧ (∀ (s : State) (n : Byte), s.takes → s.grantsWindow → n = s.arguments.argAt 0 →
    (3 < n.toNat → exec (.listClose .free) s = .next (s.answered 0x44 0x02 []))
    ∧ (n.toNat ≤ 3 → exec (.listClose .free) s = .next
        (setCursor n ⟨.closed, 0, 0, .notice, none, 0, 0⟩ (s.answered 0x44 0x00 [n]))))
  ∧ ∀ (s : State) (n : Byte) (c : Cursor), s.takes → s.grantsWindow →
    n = s.arguments.argAt 0 → c = cursorAt s.engine.cursors n →
    ∀ ahead : Entry → Prop,
    (∀ e, ahead e ↔ c.matches e = true ∧ c.last < e.seq ∧ e.seq ≤ c.bound) →
    (3 < n.toNat → exec (.listNext .free) s = .next (s.answered 0x43 0x02 []))
    ∧ (n.toNat ≤ 3 →
      (c.state = .closed → exec (.listNext .free) s = .next (s.answered 0x43 0x14 []))
      ∧ (c.state = .exhausted → exec (.listNext .free) s = .next (s.answered 0x43 0x13 []))
      ∧ (c.state = .opened →
        (∀ (i : Fin 128) (e : Entry), s.engine.slots[i].entry = some e → ahead e →
            (∀ (j : Fin 128) (f : Entry), s.engine.slots[j].entry = some f →
              ahead f → j ≠ i → e.seq < f.seq) →
            exec (.listNext .free) s = .next
              (setCursor n { c with last := e.seq }
                (s.answered 0x43 0x00 (e.view i.val s.engine.slots[i].gen))))
        ∧ ((∀ (i : Fin 128) (e : Entry), s.engine.slots[i].entry = some e →
              ¬ ahead e) →
            exec (.listNext .free) s = .next
              (setCursor n { c with state := .exhausted } (s.answered 0x43 0x13 [])))))

/-- AGENT-INFO answers BAD_ARGUMENT above 62, NOT_FOUND with the roster count and the lowest roster
address above the one asked for, or 0, for an address not in the roster, and otherwise the roster
record; it changes nothing else. The roster is in ascending address order. -/
def Obligations.AgentInfoAnswers : Prop :=
  ∀ (s : State) (a next : Byte), s.takes → a = s.arguments.argAt 0 →
    s.link.roster.Pairwise (fun x y => x.address.toNat < y.address.toNat) →
    ((∃ x ∈ s.link.roster, x.address = next ∧ a.toNat < next.toNat
        ∧ ∀ y ∈ s.link.roster, a.toNat < y.address.toNat → next.toNat ≤ y.address.toNat)
      ∨ (next = 0 ∧ ∀ y ∈ s.link.roster, y.address.toNat ≤ a.toNat)) →
    (62 < a.toNat → exec .agentInfo s = .next (s.completed 0x45 0x02 []))
    ∧ (a.toNat ≤ 62 →
      (findAgent s.link.roster a = none →
          exec .agentInfo s = .next (s.completed 0x45 0x06 [byte s.link.roster.length, next]))
      ∧ ∀ x : Agent, findAgent s.link.roster a = some x →
          exec .agentInfo s = .next (s.completed 0x45 0x00
            ([byte s.link.roster.length, next, x.address]
              ++ be16 x.home ++ (homePath s a).bytes
              ++ [x.state.code, byte x.misses, byte x.limit, x.lastSeq, x.stored.1,
                  x.stored.2.code, bit x.waiting])))

/-! ## Acknowledging and clearing -/

/-- ACK by a matching handle: ACTIVE-UNACK becomes ACTIVE-ACK, ACTIVE-ACK stays and is ALREADY, a
latching CLEARED-UNACK entry stays and is LATCHED, any other CLEARED-UNACK entry is retired. Every
other general entry, the summary and the counter stay. -/
def Obligations.AckAnswers : Prop :=
  ∀ s : State, s.takes → s.grantsWindow →
    (127 < (s.arguments.argAt 0).toNat →
        exec (.ack .free) s = .next (s.answered 0x50 0x02 []))
    ∧ ∀ i : Fin 128, i.val = (s.arguments.argAt 0).toNat →
      ((∀ e : Entry, s.engine.slots[i] ≠ ⟨s.arguments.argAt 1, some e⟩) →
          exec (.ack .free) s = .next (s.answered 0x50 0x05 []))
      ∧ ∀ e : Entry, s.engine.slots[i] = ⟨s.arguments.argAt 1, some e⟩ →
        ∃ t, exec (.ack .free) s = .next t
          ∧ t.summary = s.summary ∧ t.engine.seqNext = s.engine.seqNext
          ∧ t.engine.seqSpent = s.engine.seqSpent
          ∧ (∀ j : Fin 128, j ≠ i → j.val < 126 → t.engine.slots[j] = s.engine.slots[j])
          ∧ (e.state = .activeUnack →
              t.engine.slots[i] = ⟨s.arguments.argAt 1, some { e with state := .activeAck }⟩
                ∧ (∀ j : Fin 128, j ≠ i → t.engine.slots[j] = s.engine.slots[j])
                ∧ t.topo = s.topo
                ∧ s.answeredWith t 0x50 0x00 [s.arguments.argAt 0, s.arguments.argAt 1, 2])
          ∧ (e.state = .activeAck →
              t.engine.slots = s.engine.slots ∧ t.topo = s.topo
                ∧ s.answeredWith t 0x50 0x07 [s.arguments.argAt 0, s.arguments.argAt 1, 2])
          ∧ (e.state = .clearedUnack → e.latching = true →
              t.engine.slots = s.engine.slots ∧ t.topo = s.topo
                ∧ s.answeredWith t 0x50 0x15 [s.arguments.argAt 0, s.arguments.argAt 1, 3])
          ∧ (e.state = .clearedUnack → e.latching = false →
              t.engine.slots[i] = ⟨s.arguments.argAt 1 + 1, none⟩
                ∧ s.answeredWith t 0x50 0x00 [s.arguments.argAt 0, s.arguments.argAt 1, 0])

/-- ACK-ALL acts on every general entry of the named domains by its state, and on no other; it sends
no event. Its response gives the mask, the entries made ACTIVE-ACK, those that left the table, and
the latching CLEARED-UNACK entries left. A TABLE FULL entry that a hysteresis check clears before
the command comes to it is not acknowledged. -/
def Obligations.AckAllAnswers : Prop :=
  ∀ (s : State) (mask : Byte) (named : Domain → Bool) (leaves : Entry → Bool), s.takes →
    s.grantsWindow → mask = s.arguments.argAt 0 →
    (∀ d, named d = mask.getLsbD (match d with | .unit => 0 | .field => 1)) →
    (∀ e, leaves e = (named e.domain && e.state == .clearedUnack && !e.latching)) →
    (mask = 0 ∨ 3 < mask.toNat → exec (.ackAll .free) s = .next (s.answered 0x51 0x02 []))
    ∧ (1 ≤ mask.toNat → mask.toNat ≤ 3 →
      ∃ (t : State) (acked : Nat), exec (.ackAll .free) s = .next t
        ∧ s.answeredWith t 0x51 0x00
            [mask, byte acked,
             byte (countEntries s.engine.slots (fun _ => true)
               - countEntries t.engine.slots (fun _ => true)),
             byte (countEntries s.engine.slots fun e =>
               named e.domain && e.state == .clearedUnack && e.latching)]
        ∧ (∀ (eased : Domain → Bool) (general : Prop),
            (general ↔ ∃ i : Fin 128, i.val < 126
              ∧ s.engine.slots[i].holds leaves = true) →
            (eased .unit = true ↔ general ∧ 4 ≤ usableFree t.engine.slots s.limits.reserve .unit) →
            (eased .field = true ↔
              (general ∨ s.engine.slots[(126 : Fin 128)].holds leaves = true)
                ∧ 4 ≤ usableFree t.engine.slots s.limits.reserve .field) →
            acked = (List.finRange 128).countP fun i => s.engine.slots[i].holds fun e =>
              named e.domain && e.state == .activeUnack
                && (e.latching
                  || (i.val != 126 || !eased .unit) && (i.val != 127 || !eased .field)))
        ∧ t.summary = s.summary ∧ t.engine.seqNext = s.engine.seqNext
        ∧ t.engine.seqSpent = s.engine.seqSpent
        ∧ ∀ i : Fin 128, i.val < 126 →
          (s.engine.slots[i].entry = none → t.engine.slots[i] = s.engine.slots[i])
          ∧ ∀ e : Entry, s.engine.slots[i].entry = some e →
            (named e.domain = false → t.engine.slots[i] = s.engine.slots[i])
            ∧ (named e.domain = true →
              (e.state = .activeUnack → t.engine.slots[i]
                  = ⟨s.engine.slots[i].gen, some { e with state := .activeAck }⟩)
              ∧ (e.state = .activeAck → t.engine.slots[i] = s.engine.slots[i])
              ∧ (e.state = .clearedUnack → e.latching = true →
                  t.engine.slots[i] = s.engine.slots[i])
              ∧ (e.state = .clearedUnack → e.latching = false →
                  t.engine.slots[i] = ⟨s.engine.slots[i].gen + 1, none⟩)))

/-- CLEAR-DOMAIN is answered BAD_ARGUMENT by the window for an undefined domain; otherwise it is
taken, its request waits and the window is BUSY. The granted request starts the sweep: every
standing entry of the domain that is not latching is marked, the domain's location marks and NEW
flag are cleared, nothing is retired, and no cause is cleared. The grant is the row SWEEP_START;
WINDOW_REQUEST_GRANT of the same request does the same. -/
def Obligations.ClearDomainStartsItsSweep : Prop :=
  (∀ s : State, s.takes →
    (1 < (s.arguments.argAt 0).toNat →
        exec .clearDomain s = .next (s.completed 0x52 0x02 []))
    ∧ ((s.arguments.argAt 0).toNat ≤ 1 →
        exec .clearDomain s = .next (s.waitsWith 0x52)))
  ∧ (∀ s : State, s.window.cmd = 0x52 → exec .windowRequestGrant s = exec .sweepStart s)
  ∧ ∀ (s : State) (d : Domain) (marks : Entry → Bool), s.live = true → s.window.waiting = true →
    s.window.cmd = 0x52 → s.nextGrant = some .window →
    s.window.argCopy[0] = (if d = .unit then 0 else 1) →
    (∀ e, marks e = (e.domain == d && !e.latching && decide (e.seq ≤ s.engine.seqNext - 1))) →
    ∃ t, exec .sweepStart s = .next t
      ∧ (∀ i : Fin 128, t.engine.slots[i].gen = s.engine.slots[i].gen
          ∧ t.engine.slots[i].entry = s.engine.slots[i].entry.map fun e =>
              if marks e = true then { e with sweepMark := true } else e)
      ∧ t = { s with
          engine := { s.engine with
            slots := t.engine.slots
            lastGranted := .window
            sweep := some
              { domain := d, bound := s.engine.seqNext - 1, next := 0,
                marked := countEntries s.engine.slots marks, retired := 0, gapTaken := false } }
          topo := { s.topo with locs := s.topo.locs.map fun l =>
            if d = .unit then { l with uMark := false } else { l with fMark := false } }
          summary := { s.summary with
            unitNew := if d = .unit then false else s.summary.unitNew
            fieldNew := if d = .field then false else s.summary.fieldNew }
          release := s.release.handOff (fatalHeld s.engine.slots)
          window := { s.window with
            waiting := false
            counts := Counts.of s.engine.slots
            cause := s.window.cause
              ||| (if s.release.trips (fatalHeld s.engine.slots) then 0x04 else 0) } }

/-- Step k of a sweep retires the marked entries among indices 8k to 8k + 7, those of the reserved
indices among them, each with its hysteresis check of the TABLE FULL entries, and leaves every other
entry; step 15 ends the sweep and completes CLEAR-DOMAIN with OK. The retired count is that of the
marked entries gone in steps (log entry 11); when a step is due: log entry 21. -/
def Obligations.SweepStepRetiresMarked : Prop :=
  ∀ (s : State) (sw : Sweep), s.engine.sweep = some sw → s.sweepStepDue sw = true →
    sw.next < 16 →
    ∃ (t : State) (retired : Nat), exec .sweepStep s = .next t
      ∧ (∀ i : Fin 128, i.val < 126 →
          t.engine.slots[i] = if i.val / 8 = sw.next ∧ s.engine.slots[i].holds (·.sweepMark) = true
            then ⟨s.engine.slots[i].gen + 1, none⟩ else s.engine.slots[i])
      ∧ (∀ (d : Domain) (room : Prop),
          (room ↔ (∃ i : Fin 128, i.val / 8 = sw.next
              ∧ s.engine.slots[i].holds (·.sweepMark) = true)
            ∧ 4 ≤ usableFree t.engine.slots s.limits.reserve d) →
          (sw.next = 15 → s.engine.slots[tableFullIndex d].holds (·.sweepMark) = true →
            t.engine.slots[tableFullIndex d]
              = ⟨s.engine.slots[tableFullIndex d].gen + 1, none⟩)
          ∧ (sw.next < 15 ∨ s.engine.slots[tableFullIndex d].holds (·.sweepMark) = false →
            (room → t.engine.slots[tableFullIndex d]
              = s.engine.slots[tableFullIndex d].eased true)
            ∧ (¬ room → t.engine.slots[tableFullIndex d]
              = s.engine.slots[tableFullIndex d])))
      ∧ retired = sw.retired + (countEntries s.engine.slots (·.sweepMark)
          - countEntries t.engine.slots (·.sweepMark))
      ∧ t.summary = s.summary ∧ t.engine.seqNext = s.engine.seqNext
      ∧ t.engine.cursors = s.engine.cursors
      ∧ t.window.counts = Counts.of t.engine.slots
      ∧ t.release = s.release.handOff (fatalHeld t.engine.slots)
      ∧ (sw.next < 15 →
          t.engine.sweep = some { sw with
              next := sw.next + 1, retired := retired, gapTaken := false }
            ∧ t.engine.lastGranted = s.engine.lastGranted
            ∧ t.window.cmdState = s.window.cmdState ∧ t.window.resp = s.window.resp)
      ∧ (sw.next = 15 → t.engine.sweep = none ∧ t.engine.lastGranted = .window
          ∧ t.window.cmdState = .done ∧ t.window.result = 0
          ∧ t.window.resp = respOf (sw.domain.code :: be32 sw.bound
              ++ [byte sw.marked, byte retired, byte (standing t.engine.slots sw.domain)]))
      ∧ t.topo.state = s.topo.state ∧ t.topo.staged = s.topo.staged
      ∧ t.topo.verify = s.topo.verify
      ∧ t.groups = s.groups ∧ t.limits = s.limits ∧ t.link = s.link ∧ t.clock = s.clock

/-- CLEAR-SUMMARY clears the bits of the summary word whose mask bit is 1 and completes OK with the
word after it; nothing else outside the window changes, and it waits for no grant. -/
def Obligations.ClearSummaryClears : Prop :=
  ∀ (s : State) (word : BitVec 16), s.takes →
    word = s.summary.word &&& ~~~((s.arguments.argAt 0 ++ s.arguments.argAt 1 : BitVec 16)) →
    exec .clearSummary s = .next
      { s.completed 0x53 0x00 (be16 word.toNat) with summary := { s.summary with word := word } }

/-! ## The controller's own conditions -/

/-- RAISE-APP of a key that does not stand, with a sequence and usable room: the lowest FREE general
index takes an entry with the fields of a creation, and nothing else of the table changes. Its event
latches the group's summary bit and sets the NEW flag of its domain, whose cause is set where the
flag rises. -/
def Obligations.RaiseAppCreates : Prop :=
  ∀ (s : State) (k : Key) (g : GroupRecord) (i : Fin 128), s.takes → s.grantsWindow →
    k = ⟨s.arguments.argPath 0, s.arguments.argAt 4, s.arguments.argAt 5⟩ →
    k.path.wellFormed = true → 8 ≤ k.group.toNat → k.group.toNat ≤ 31 →
    (s.arguments.argAt 6).toNat ≤ 20 → g = groupOf s.groups k.group → g.enabled = true →
    (∀ (j : Fin 128) (f : Entry), s.engine.slots[j].entry = some f → f.key ≠ k) →
    s.engine.seqNext ≤ 4294967295 → 0 < usableFree s.engine.slots s.limits.reserve g.domain →
    i.val < 126 → s.engine.slots[i].entry = none →
    (∀ j : Fin 128, j < i → s.engine.slots[j].entry ≠ none) →
    ∃ (t : State) (e : Entry), exec (.raiseApp .free) s = .next t
      ∧ t.engine.slots[i] = ⟨s.engine.slots[i].gen, some e⟩
      ∧ (∀ j : Fin 128, j ≠ i → t.engine.slots[j] = s.engine.slots[j])
      ∧ e.seq = s.engine.seqNext ∧ e.key = k ∧ e.anchor = anchorOf s.topo.locs k.path
      ∧ e.domain = g.domain ∧ e.logged = g.logged ∧ e.latching = g.latching
      ∧ e.state = (if g.momentary then .clearedUnack else .activeUnack)
      ∧ e.executed = executedAction g s.release.mode g.logged false
      ∧ e.escalated = false ∧ e.origin = .controller ∧ e.occ = 1
      ∧ e.first = s.clock ∧ e.last = s.clock ∧ e.burstStart = s.clock ∧ e.burstCount = 1
      ∧ e.detail = (List.range (s.arguments.argAt 6).toNat).map (fun n => s.arguments.argAt (7 + n))
      ∧ e.sweepMark = false
      ∧ t.engine.seqNext = s.engine.seqNext + 1
      ∧ t.topo.locs = (if g.momentary then s.topo.locs else countUp s.topo.locs e.anchor)
      ∧ t.summary = {
          word := s.summary.word ||| ((1 : BitVec 16) <<< g.summaryBit.toNat)
          unitNew := s.summary.unitNew || g.domain == .unit
          fieldNew := s.summary.fieldNew || g.domain == .field }
      ∧ t.window.cause = s.window.cause
          ||| (if g.domain = .unit ∧ s.summary.unitNew = false then 0x01 else 0)
          ||| (if g.domain = .field ∧ s.summary.fieldNew = false then 0x02 else 0)
          ||| (if s.release.trips (fatalHeld t.engine.slots) then 0x04 else 0) ||| 0x20
      ∧ t.engine.seqSpent = s.engine.seqSpent
      ∧ s.answeredWith t 0x54 0x00 (e.view i.val s.engine.slots[i].gen)

/-- RAISE-APP of a key that stands is a repeat of an active entry, a momentary raise of a cleared
one of a momentary group, and otherwise a reactivation. The burst count goes up within the burst
window and starts again after it; a repeat or a reactivation whose count reaches the group's
threshold escalates the entry once and computes its executed action again with the flag set,
whatever the action was (that R41 goes so for a FATAL entry too, beside R27, R133 and R140, is the
model's reading: log entry 31). Their events latch the summary bit; a reactivation sets the NEW flag
of the domain. -/
def Obligations.RaiseAppOnStandingKey : Prop :=
  ∀ (s : State) (k : Key) (g : GroupRecord) (i : Fin 128) (e : Entry) (start : Stamp) (count : Nat)
    (esc : Bool) (detail : List Byte), s.takes → s.grantsWindow →
    k = ⟨s.arguments.argPath 0, s.arguments.argAt 4, s.arguments.argAt 5⟩ →
    k.path.wellFormed = true → 8 ≤ k.group.toNat → k.group.toNat ≤ 31 →
    (s.arguments.argAt 6).toNat ≤ 20 → g = groupOf s.groups k.group → g.enabled = true →
    s.engine.slots[i].entry = some e → e.key = k →
    (∀ (j : Fin 128) (f : Entry), s.engine.slots[j].entry = some f → f.key = k → j = i) →
    start = (if (s.clock - e.burstStart).toNat ≤ g.burstWindow.toNat then e.burstStart
      else s.clock) →
    count = (if (s.clock - e.burstStart).toNat ≤ g.burstWindow.toNat
      then min 255 (e.burstCount + 1) else 1) →
    (esc = true ↔ g.burstThreshold ≠ 0 ∧ e.logged ≠ .notice ∧ e.escalated = false
      ∧ g.burstThreshold.toNat ≤ count) →
    detail = (if s.arguments.argAt 6 = 0 then e.detail else
      (List.range (s.arguments.argAt 6).toNat).map (fun n => s.arguments.argAt (7 + n))) →
    ∃ (t : State) (e' : Entry), exec (.raiseApp .free) s = .next t
      ∧ t.engine.slots[i] = ⟨s.engine.slots[i].gen, some e'⟩
      ∧ (∀ j : Fin 128, j ≠ i → t.engine.slots[j] = s.engine.slots[j])
      ∧ t.engine.seqNext = s.engine.seqNext ∧ t.engine.seqSpent = s.engine.seqSpent
      ∧ e' = { e with
          occ := min 65535 (e.occ + 1), last := s.clock, origin := .controller,
          burstStart := start, burstCount := count, sweepMark := false, state := e'.state,
          executed := e'.executed, escalated := e'.escalated, detail := e'.detail }
      ∧ (e.state ≠ .clearedUnack →
          e'.state = e.state ∧ e'.detail = detail ∧ t.topo.locs = s.topo.locs
            ∧ e'.escalated = (e.escalated || esc)
            ∧ e'.executed = (if esc then executedAction g s.release.mode e.logged true
                else e.executed)
            ∧ t.summary = { s.summary with
                word := if esc then s.summary.word ||| ((1 : BitVec 16) <<< g.summaryBit.toNat)
                  else s.summary.word })
      ∧ (e.state = .clearedUnack → g.momentary = true →
          e'.state = .clearedUnack ∧ e'.detail = e.detail ∧ e'.executed = e.executed
            ∧ e'.escalated = e.escalated ∧ t.topo.locs = s.topo.locs ∧ t.summary = s.summary)
      ∧ (e.state = .clearedUnack → g.momentary = false →
          e'.state = .activeUnack ∧ e'.detail = detail
            ∧ t.topo.locs = countUp s.topo.locs e.anchor
            ∧ e'.escalated = (e.escalated || esc)
            ∧ e'.executed = executedAction g s.release.mode e.logged e'.escalated
            ∧ t.summary = {
                word := s.summary.word ||| ((1 : BitVec 16) <<< g.summaryBit.toNat)
                unitNew := s.summary.unitNew || e.domain == .unit
                fieldNew := s.summary.fieldNew || e.domain == .field })
      ∧ t.window.cause = s.window.cause
          ||| (if t.summary.unitNew ∧ s.summary.unitNew = false then 0x01 else 0)
          ||| (if t.summary.fieldNew ∧ s.summary.fieldNew = false then 0x02 else 0)
          ||| (if s.release.trips (fatalHeld t.engine.slots) then 0x04 else 0) ||| 0x20
      ∧ s.answeredWith t 0x54 0x00 (e'.view i.val s.engine.slots[i].gen)

/-- RAISE-APP refused at a check, or for the sequence counter: no entry is made or changed; a spent
counter sets SEQ_SPENT and the SPACE cause. -/
def Obligations.RaiseAppRefused : Prop :=
  ∀ (s : State) (k : Key), s.takes → s.grantsWindow →
    k = ⟨s.arguments.argPath 0, s.arguments.argAt 4, s.arguments.argAt 5⟩ →
    (k.path.wellFormed = false ∨ k.group.toNat < 8 ∨ 31 < k.group.toNat
        ∨ 20 < (s.arguments.argAt 6).toNat →
      exec (.raiseApp .free) s = .next (s.answered 0x54 0x02 []))
    ∧ (k.path.wellFormed = true → 8 ≤ k.group.toNat → k.group.toNat ≤ 31 →
        (s.arguments.argAt 6).toNat ≤ 20 →
      ((groupOf s.groups k.group).enabled = false →
        exec (.raiseApp .free) s = .next (s.answered 0x54 0x17 []))
      ∧ ((groupOf s.groups k.group).enabled = true → 4294967295 < s.engine.seqNext →
        (∀ (j : Fin 128) (f : Entry), s.engine.slots[j].entry = some f → f.key ≠ k) →
        ∃ t, exec (.raiseApp .free) s = .next t
          ∧ t.engine.slots = s.engine.slots ∧ t.engine.seqNext = s.engine.seqNext
          ∧ t.engine.seqSpent = true ∧ t.topo = s.topo ∧ t.summary = s.summary
          ∧ t.window.cause &&& 0x08 = 0x08
          ∧ s.answeredWith t 0x54 0x12 []))

/-- A creation of domain D with no usable room and no displacement candidate is refused for space:
it takes no entry and no sequence, the D-mark of its anchor is set, a space event is sent, and TABLE
FULL of D is raised at its reserved index: created where that is FREE, repeated where it is active,
reactivated where it is cleared. A RAISE-APP so refused answers FULL. -/
def Obligations.RefusalForSpace : Prop :=
  (∀ (w : Work) (r : Raise) (d : Domain) (i : Fin 128) (g6 : GroupRecord) (root : Location),
    d = (w.group r.key.group).domain → i = (if d = .unit then 126 else 127) → g6 = w.group 6 →
    g6.momentary = false → g6.burstThreshold = 0 →
    w.locs[0]? = some root → root.path = LocPath.root →
    (∀ x, r.key ≠ tableFullKey x) →
    (∀ (j : Fin 128) (f : Entry), w.entry j = some f → f.key ≠ r.key) → w.seqNext ≤ 4294967295 →
    usableFree w.slots w.reserve d = 0 →
    (∀ (j : Fin 128) (e : Entry), w.entry j = some e → displaceable d j e = false) →
    (∀ (j : Fin 128) (f : Entry), w.entry j = some f →
      (f.key = ⟨LocPath.root, 6, if d = .unit then 1 else 2⟩ ↔ j = i)) →
    ∃ (w' : Work) (e' : Entry) (locs : List Location), w.raise r = (w', .full) ∧ w'.space = true
      ∧ w'.slots[i] = ⟨w.slots[i].gen, some e'⟩
      ∧ (∀ j : Fin 128, j ≠ i → w'.slots[j] = w.slots[j])
      ∧ w'.seqSpent = w.seqSpent
      ∧ locs = w.locs.modify (anchorOf w.locs r.key.path) (fun l =>
          if d = .unit then { l with uMark := true } else { l with fMark := true })
      ∧ (w.entry i = none →
          e' = { seq := w.seqNext, key := ⟨LocPath.root, 6, if d = .unit then 1 else 2⟩,
                 anchor := 0,
                 domain := g6.domain, state := .activeUnack, logged := g6.logged,
                 executed := executedAction g6 w.mode g6.logged false, escalated := false,
                 latching := g6.latching, origin := .part, occ := 1, first := w.now, last := w.now,
                 burstStart := w.now, burstCount := 1, detail := [], sweepMark := false }
            ∧ w'.seqNext = w.seqNext + 1 ∧ w'.locs = countUp locs 0
            ∧ w'.events = w.events ++ [⟨.creation, g6.domain, g6.summaryBit⟩])
      ∧ (∀ e, w.entry i = some e → w'.seqNext = w.seqNext
          ∧ e' = { e with
              occ := min 65535 (e.occ + 1), last := w.now, origin := .part,
              burstStart := e'.burstStart, burstCount := e'.burstCount, sweepMark := false,
              state := e'.state, executed := e'.executed }
          ∧ (e.state ≠ .clearedUnack → e'.state = e.state ∧ e'.executed = e.executed
              ∧ w'.locs = locs ∧ w'.events = w.events)
          ∧ (e.state = .clearedUnack → e'.state = .activeUnack
              ∧ e'.executed = executedAction g6 w.mode e.logged e.escalated
              ∧ w'.locs = countUp locs e.anchor
              ∧ w'.events = w.events ++ [⟨.reactivation, e.domain, g6.summaryBit⟩])))
  ∧ ∀ (s : State) (r : Raise) (w : Work), s.takes → s.grantsWindow →
    r = ⟨⟨s.arguments.argPath 0, s.arguments.argAt 4, s.arguments.argAt 5⟩,
      (List.range (s.arguments.argAt 6).toNat).map (fun n => s.arguments.argAt (7 + n)),
      .controller⟩ →
    r.key.path.wellFormed = true → 8 ≤ r.key.group.toNat → r.key.group.toNat ≤ 31 →
    (s.arguments.argAt 6).toNat ≤ 20 → (groupOf s.groups r.key.group).enabled = true →
    (taking s).raise r = (w, .full) →
    ∃ t, exec (.raiseApp .free) s = .next t ∧ workedCommand s t w 0x54 0x11 []
      ∧ t.window.cause &&& 0x08 = s.window.cause &&& 0x08 ||| (if w.space then 0x08 else 0)

/-- A creation with no usable room displaces the candidate of lowest sequence: it is retired, its
index, with the generation one higher, takes the new entry, and a space event is sent. The
candidates are the cleared, not latching general entries of the domain whose executed action is
NOTICE. A RAISE-APP that displaces answers OK with the view of its entry. -/
def Obligations.DisplacementReusesOldest : Prop :=
  (∀ (d : Domain) (i : Fin 128) (e : Entry), displaceable d i e = true ↔
    i.val < 126 ∧ e.domain = d ∧ e.state = .clearedUnack ∧ e.executed = .notice
      ∧ e.latching = false)
  ∧ (∀ (w : Work) (r : Raise) (g : GroupRecord) (i : Fin 128) (e : Entry),
    g = w.group r.key.group → (∀ x, r.key ≠ tableFullKey x) →
    (∀ (j : Fin 128) (f : Entry), w.entry j = some f → f.key ≠ r.key) → w.seqNext ≤ 4294967295 →
    usableFree w.slots w.reserve g.domain = 0 →
    w.entry i = some e → displaceable g.domain i e = true →
    (∀ (j : Fin 128) (f : Entry), w.entry j = some f → displaceable g.domain j f = true → j ≠ i →
      e.seq < f.seq) →
    ∃ w' : Work, w.raise r = (w', .created)
      ∧ w'.slots[i] = ⟨w.slots[i].gen + 1, some
          { seq := w.seqNext, key := r.key, anchor := anchorOf w.locs r.key.path,
            domain := g.domain, state := if g.momentary then .clearedUnack else .activeUnack,
            logged := g.logged, executed := executedAction g w.mode g.logged false,
            escalated := false, latching := g.latching, origin := r.origin, occ := 1,
            first := w.now, last := w.now, burstStart := w.now, burstCount := 1,
            detail := r.detail, sweepMark := false }⟩
      ∧ w'.seqNext = w.seqNext + 1 ∧ w'.seqSpent = w.seqSpent ∧ w'.space = true
      ∧ w'.events = w.events ++ [⟨.creation, g.domain, g.summaryBit⟩]
      ∧ (∀ j : Fin 128, j ≠ i → j.val < 126 → w'.slots[j] = w.slots[j]))
  ∧ ∀ (s : State) (r : Raise) (w : Work) (i : Fin 128) (e : Entry), s.takes → s.grantsWindow →
    r = ⟨⟨s.arguments.argPath 0, s.arguments.argAt 4, s.arguments.argAt 5⟩,
      (List.range (s.arguments.argAt 6).toNat).map (fun n => s.arguments.argAt (7 + n)),
      .controller⟩ →
    r.key.path.wellFormed = true → 8 ≤ r.key.group.toNat → r.key.group.toNat ≤ 31 →
    (s.arguments.argAt 6).toNat ≤ 20 → (groupOf s.groups r.key.group).enabled = true →
    (taking s).raise r = (w, .created) → w.slots[i].entry = some e → e.key = r.key →
    (∀ (j : Fin 128) (f : Entry), w.slots[j].entry = some f → f.key = r.key → j = i) →
    ∃ t, exec (.raiseApp .free) s = .next t
      ∧ workedCommand s t w 0x54 0x00 (e.view i.val w.slots[i].gen)
      ∧ t.window.cause &&& 0x08 = s.window.cause &&& 0x08 ||| (if w.space then 0x08 else 0)

/-- The executed action: NOTICE stays NOTICE; otherwise the configured action where configurable,
FATAL where escalated, and in RUN no higher than DIAGNOSTIC for a run-demoted group. -/
def Obligations.ExecutedActionSteps : Prop :=
  ∀ (g : GroupRecord) (m : Mode) (logged : Action) (esc : Bool),
    (logged = .notice → executedAction g m logged esc = .notice)
    ∧ (logged ≠ .notice → ∀ base : Action,
        base = (if esc then .fatal else if g.configurable then g.configured else logged) →
        executedAction g m logged esc
          = if m = .run ∧ g.runDemoted = true then
              (if Action.rank base ≤ Action.rank .diagnostic then base else .diagnostic)
            else base)

/-- RESTORE-APP: an active entry that is not latching is cleared, or retired when acknowledged; a
cleared one stays; a latching one is LATCHED; none standing is NOTHING_STANDING. No event is sent.
-/
def Obligations.RestoreAppAnswers : Prop :=
  ∀ (s : State) (k : Key), s.takes → s.grantsWindow →
    k = ⟨s.arguments.argPath 0, s.arguments.argAt 4, s.arguments.argAt 5⟩ →
    (k.path.wellFormed = false ∨ k.group.toNat < 8 ∨ 31 < k.group.toNat →
      exec (.restoreApp .free) s = .next (s.answered 0x55 0x02 []))
    ∧ (k.path.wellFormed = true → 8 ≤ k.group.toNat → k.group.toNat ≤ 31 →
      ((groupOf s.groups k.group).enabled = false →
        exec (.restoreApp .free) s = .next (s.answered 0x55 0x17 []))
      ∧ ((groupOf s.groups k.group).enabled = true →
        ∃ t, exec (.restoreApp .free) s = .next t
          ∧ t.summary = s.summary ∧ t.engine.seqNext = s.engine.seqNext
          ∧ t.engine.seqSpent = s.engine.seqSpent
          ∧ ((∀ (j : Fin 128) (f : Entry), s.engine.slots[j].entry = some f → f.key ≠ k) →
              t.engine.slots = s.engine.slots ∧ t.topo = s.topo
                ∧ s.answeredWith t 0x55 0x16 [])
          ∧ ∀ (i : Fin 128) (e : Entry), s.engine.slots[i].entry = some e → e.key = k →
            (∀ (j : Fin 128) (f : Entry), s.engine.slots[j].entry = some f → f.key = k →
              j = i) →
            (∀ j : Fin 128, j ≠ i → j.val < 126 → t.engine.slots[j] = s.engine.slots[j])
            ∧ (e.latching = true →
                t.engine.slots = s.engine.slots ∧ t.topo = s.topo
                  ∧ s.answeredWith t 0x55 0x15
                    [byte i.val, s.engine.slots[i].gen, e.state.code])
            ∧ (e.latching = false → e.state = .activeUnack →
                t.engine.slots[i]
                    = ⟨s.engine.slots[i].gen, some { e with state := .clearedUnack }⟩
                  ∧ t.topo.locs = countDown s.topo.locs e.anchor
                  ∧ s.answeredWith t 0x55 0x00 [byte i.val, s.engine.slots[i].gen, 3])
            ∧ (e.latching = false → e.state = .activeAck →
                t.engine.slots[i] = ⟨s.engine.slots[i].gen + 1, none⟩
                  ∧ s.answeredWith t 0x55 0x00 [byte i.val, s.engine.slots[i].gen, 0])
            ∧ (e.latching = false → e.state = .clearedUnack →
                t.engine.slots = s.engine.slots ∧ t.topo = s.topo
                  ∧ s.answeredWith t 0x55 0x00 [byte i.val, s.engine.slots[i].gen, 3])))

/-! ## WARM-RESTART -/

/-- The work of a granted WARM-RESTART at every owner: the map keeps its records but for presence,
marks and counts; the link starts a new round once the exchange on the line, which goes on, is over.
The window stays BUSY for its completion, whose response is what the request leaves (log entry 14);
an expiry that is due already sets its cause first (log entry 30). -/
def Obligations.WarmRestartAtItsGrant : Prop :=
  ∀ s : State, s.takes → s.grantsWindow →
    ∃ t, exec (.warmRestart .free) s = .next t
      ∧ t.release.mode = .hold ∧ t.release.state ≠ .granted
      ∧ t.release.fatalCopy = fatalHeld t.engine.slots
      ∧ t.link.queue = []
      ∧ t.link.roster = s.link.roster.map (fun x =>
          { x with state := .offline, misses := 0, lastSeq := 0, stored := (0, .none),
                   waiting := false })
      ∧ t.link.exchange = s.link.exchange ∧ t.link.line = s.link.line
      ∧ t.link.position = none
      ∧ t.link.phase = (if s.topo.state = .loaded ∧ s.link.roster ≠ [] then .dueAfter
          else .stopped)
      ∧ (∀ (i : Fin 128) (e : Entry), i.val < 126 → s.engine.slots[i].entry = some e →
          (e.latching = true → t.engine.slots[i]
            = ⟨s.engine.slots[i].gen, some { e with sweepMark := false }⟩)
          ∧ (e.latching = false → t.engine.slots[i] = ⟨s.engine.slots[i].gen + 1, none⟩))
      ∧ (∀ (i : Fin 128) (e : Entry), t.engine.slots[i].entry = some e →
          e.latching = true ∧ e.sweepMark = false)
      ∧ t.engine.cursors = Vector.replicate 4 Cursor.closed
      ∧ t.engine.seqNext = s.engine.seqNext ∧ t.engine.seqSpent = s.engine.seqSpent
      ∧ t.topo.state = s.topo.state ∧ t.topo.staged = s.topo.staged
      ∧ t.topo.locs.length = s.topo.locs.length
      ∧ (∀ (i : Nat) (l l' : Location), s.topo.locs[i]? = some l → t.topo.locs[i]? = some l' →
          l' = { l with
            presence := if i = 0 then l.presence else .unverified, uMark := false, fMark := false,
            own := l'.own, below := l'.below })
      ∧ (s.topo.state = .loaded → t.topo.verify = ⟨true, s.clock, false⟩)
      ∧ (s.topo.state ≠ .loaded → t.topo.verify
          = ⟨s.topo.verify.running && !s.expiryDue, s.topo.verify.start, false⟩)
      ∧ t.summary = ⟨0, false, false⟩
      ∧ t.window.counts = Counts.of t.engine.slots
      ∧ t.window.cause = s.window.cause ||| (if s.expiryDue then 0x40 else 0)
      ∧ t.window.cmdState = .busy ∧ t.window.enable = s.window.enable
      ∧ t.window.cmd = 0x60 ∧ t.window.waiting = false ∧ t.port = .released
      ∧ t.window.restart = some
          ⟨[byte (countEntries s.engine.slots (fun _ => true)
              - countEntries t.engine.slots (fun _ => true)),
            byte (countEntries t.engine.slots (·.latching)), byte (fatalHeld t.engine.slots),
            t.release.state.code, t.topo.state.code], false⟩
      ∧ t.groups = s.groups ∧ t.limits = s.limits ∧ t.clock = s.clock

/-- The end of WARM-RESTART: the causes are cleared on their own, then DONE is set and the command
completes OK; a cause set after the clear stays beside DONE. -/
def Obligations.WarmRestartCompletes : Prop :=
  ∀ (s : State) (response : List Byte), s.live = true →
    (s.window.restart = some ⟨response, false⟩ →
      exec (.warmRestartComplete .clear) s = .next { s with
        window := { s.window with cause := 0, restart := some ⟨response, true⟩ } })
    ∧ (∀ cleared : Bool, s.window.restart = some ⟨response, cleared⟩ →
      exec (.warmRestartComplete .finish) s = .next { s with
        window := { s.window with
          resp := respOf response, result := 0, cmdState := .done, restart := none,
          cause := (if cleared then s.window.cause else 0) ||| 0x20 } })

/-! ## The clock and the verify window -/

/-- A millisecond moves the clock by one, modulo 2^32, and the gap of the poll round with it (that
the gap counts the clock's milliseconds: log entry 9); the expiry of the verify window stops the
timer, sets the VERIFY cause and presents its request. A tick makes an expiry that is due first (log
entry 8). -/
def Obligations.TimeMoves : Prop :=
  ∀ s : State, s.clocked = true →
    (s.expiryDue = false → exec .stampTick s = .next { s with
        clock := s.clock + 1
        link.phase := (match s.link.phase with
          | .gap left => .gap (left - 1)
          | .stopped => .stopped
          | .due => .due
          | .dueAfter => .dueAfter
          | .calling => .calling
          | .polling => .polling) })
    ∧ (s.expiryDue = true → exec .verifyExpiry s = .next { s with
        topo.verify := ⟨false, s.topo.verify.start, true⟩
        window.cause := s.window.cause ||| 0x40 })
    ∧ (s.expiryDue = true → ∀ t, exec .verifyExpiry s = .next t →
        t.expiryDue = false ∧ exec .stampTick s = exec .stampTick t)

/-- The granted expiry request raises SILENT at every UNVERIFIED record whose parent is PRESENT or
the root, in ascending record order, and nothing but SILENT, TABLE FULL beside it; it leaves every
presence as it is. -/
def Obligations.ExpiryRequestRaisesSilent : Prop :=
  ∀ s : State, s.live = true → s.nextGrant = some .verify →
    ∃ t, exec .verifyExpiryRequest s = .next t
      ∧ requestFrame .verify s t
      ∧ t.topo.verify = { s.topo.verify with waiting := false } ∧ t.link = s.link
      ∧ t.topo.locs.map (·.presence) = s.topo.locs.map (·.presence)
      ∧ (∀ (i : Fin 128) (e : Entry), t.engine.slots[i].entry = some e →
          (∃ (j : Fin 128) (f : Entry), s.engine.slots[j].entry = some f ∧ f.key = e.key)
            ∨ (∃ d, e.key = tableFullKey d)
            ∨ ∃ (j : Nat) (l : Location), s.topo.locs[j]? = some l ∧ l.presence = .unverified
                ∧ cut s.topo.locs j = false
                ∧ (l.parent = 0 ∨ presenceAt s.topo.locs l.parent = .present)
                ∧ e.key = ⟨l.path, 2, 0⟩)
      ∧ worked .verify s t
          ((s.topo.locs.zipIdx.filter fun x => x.1.presence == .unverified
              && (x.1.parent == 0 || presenceAt s.topo.locs x.1.parent == .present)
              && !cut s.topo.locs x.2).foldl
            (fun w x => (w.raise ⟨⟨x.1.path, 2, 0⟩, [], .part⟩).1) (taking s))
      ∧ ((∀ l ∈ s.topo.locs, l.presence ≠ .unverified) →
          t.engine.slots = s.engine.slots ∧ t.topo.locs = s.topo.locs
            ∧ t.summary = s.summary)

/-! ## The report link -/

/-- A round begins at the start of the roster: at once after a commit, after WARM-RESTART once the
exchange on the line is over, and after the gap of the round before it. It comes to each agent in
address order: one that is pending is passed over, any other is sent a POLL once the line is free,
which carries its address, its stored verdict and the CRC. When the exchange is over the next agent
is come to; after the last one the gap begins, and POLL_GAP is read (when the flags are looked at:
log entry 10). -/
def Obligations.RoundsAndPolls : Prop :=
  ∀ (s : State) (comesTo : List Agent → Link → Prop), s.clocked = true →
    (∀ (left : List Agent) (l : Link), comesTo left l ↔
      (∀ x : Agent, left.find? (fun y => !y.waiting) = some x →
        l.phase = .calling ∧ l.position = some x.address)
      ∧ ((∀ y ∈ left, y.waiting = true) →
        l.phase = .gap s.limits.pollGap ∧ l.position = l.roster.getLast?.map (·.address))) →
    (s.topo.state = .loaded → s.link.roster ≠ [] →
      s.link.phase = .due
        ∨ ((s.link.phase = .dueAfter ∨ s.link.phase = .gap 0) ∧ s.link.exchange = none) →
      ∃ t, exec .roundStart s = .next t
        ∧ t = { s with link := { s.link with phase := t.link.phase, position := t.link.position } }
        ∧ comesTo s.link.roster t.link)
    ∧ (∀ (a : Byte) (x : Agent), s.topo.state = .loaded → s.link.phase = .calling →
      s.link.exchange = none → s.link.line = .idle → s.link.position = some a →
      findAgent s.link.roster a = some x →
      exec .poll s = .next { s with
        link.phase := .polling
        link.exchange := some
          { agent := a
            frame := [0xB4, a, 0x01, x.stored.1, x.stored.2.code]
              ++ crcBytes [a, 0x01, x.stored.1, x.stored.2.code]
            fate := .live
            judged := false }
        link.line := .sending })
    ∧ ∀ (a : Byte) (x : Exchange) (i : Instr), s.link.phase = .polling →
      s.link.line ≠ .sending →
      s.link.position = some a → s.link.exchange = some x →
      (i = .replyWindowClose ∧ x.judged = false)
        ∨ (∃ stop bytes, i = .replyJudge stop bytes ∧ bytes.length ≤ 22) →
      ∃ t, exec i s = .next t ∧ t.link.exchange = none ∧ t.link.line = .idle
        ∧ comesTo (t.link.roster.filter fun y => decide (a.toNat < y.address.toNat)) t.link

/-- The line: LDE is raised, and LTX driven, only while a POLL is sent: its bytes back to back, each
a low start bit, eight data bits from the least significant, and a high stop bit; the idle line is
high. While LDE is high nothing on LRX is judged. The end of the POLL lowers LDE. A reply of 23
bytes is judged at once and holds the line, as bytes of no exchange do; no POLL is sent until the
line is idle, and the exchange is over then (how the rows say so: log entry 29). -/
def Obligations.LineCarriesPolls : Prop :=
  ∀ s : State,
    (s.lde = true ↔ s.inReset = false ∧ s.resetnLow = false ∧ s.link.line = .sending)
    ∧ (s.lde = false → s.ltx = [true])
    ∧ (∀ x, s.lde = true → s.link.exchange = some x →
        s.ltx.length = 10 * x.frame.length
        ∧ ∀ (k : Nat) (b : Byte), x.frame[k]? = some b →
          s.ltx[10 * k]? = some false ∧ s.ltx[10 * k + 9]? = some true
          ∧ ∀ n, n < 8 → s.ltx[10 * k + 1 + n]? = some (b.getLsbD n))
    ∧ (s.clocked = true →
      (s.link.line = .sending → exec .poll s = .next { s with link.line := .idle }
        ∧ exec .replyWindowClose s = .next s
        ∧ ∀ (stop : Bool) (bytes : List Byte), exec (.replyJudge stop bytes) s = .next s)
      ∧ (s.link.line = .busy → exec .poll s = .next s)
      ∧ ∀ (stop : Bool) (bytes : List Byte), s.link.line ≠ .sending →
        (s.link.exchange = none → exec (.replyJudge stop bytes) s = .next { s with
          link.line := if 23 ≤ bytes.length then .busy else .idle })
        ∧ ∀ x, s.link.exchange = some x →
          (x.judged = true → 23 ≤ bytes.length →
            exec (.replyJudge stop bytes) s = .next { s with link.line := .busy })
          ∧ (x.judged = true → bytes.length < 23 → ∃ t, exec (.replyJudge stop bytes) s = .next t
              ∧ t = { s with link := { s.link with
                  exchange := none, line := .idle, phase := t.link.phase,
                  position := t.link.position } })
          ∧ (x.judged = true → exec .replyWindowClose s = .next s)
          ∧ (x.judged = false → 23 ≤ bytes.length → ∃ t, exec (.replyJudge stop bytes) s = .next t
              ∧ t.link.exchange = some { x with judged := true } ∧ t.link.line = .busy
              ∧ t.link.phase = s.link.phase ∧ t.link.position = s.link.position))

/-- A reply with a broken stop bit, a wrong sync byte or a size outside 5 to 22 bytes is bad with
LINK code 2; a wrong CRC is code 1; a wrong address or type is code 3; a size that does not agree
with the type is code 2; the first check that fails decides. The CRC starts at 0xFFFF, takes each
byte into its high eight bits and steps eight times by the polynomial 0x8005, and is sent high byte
first. -/
def Obligations.RepliesAreJudgedInOrder : Prop :=
  (crc [] = 0xFFFF
    ∧ (∀ (bs : List Byte) (b : Byte), crc (bs ++ [b])
        = (fun r : BitVec 16 => if r.getLsbD 15 then (r <<< 1) ^^^ 0x8005 else r <<< 1)^[8]
            (crc bs ^^^ (b ++ (0 : Byte) : BitVec 16)))
    ∧ ∀ bs : List Byte, crcBytes bs = [(crc bs).extractLsb' 8 8, (crc bs).extractLsb' 0 8])
  ∧ ∀ (a : Byte) (stop : Bool) (bs : List Byte),
    (stop = false ∨ bs.head? ≠ some 0xB4 ∨ bs.length < 5 ∨ 22 < bs.length →
        judgeFrame a stop bs = .bad 2)
    ∧ (stop = true → bs.head? = some 0xB4 → 5 ≤ bs.length → bs.length ≤ 22 →
      (crcBytes ((bs.drop 1).take (bs.length - 3)) ≠ bs.drop (bs.length - 2) →
          judgeFrame a stop bs = .bad 1)
      ∧ (crcBytes ((bs.drop 1).take (bs.length - 3)) = bs.drop (bs.length - 2) →
        (bs[1]? ≠ some (0x80 + a) → judgeFrame a stop bs = .bad 3)
        ∧ (bs[1]? = some (0x80 + a) →
          (bs[2]? ≠ some 0x02 → bs[2]? ≠ some 0x03 → judgeFrame a stop bs = .bad 3)
          ∧ (bs[2]? = some 0x03 →
              judgeFrame a stop bs = if bs.length = 5 then .quiet else .bad 2)
          ∧ (bs[2]? = some 0x02 → ∀ d : Nat, (14 ≤ bs.length → bs[11]? = some (byte d)) → d < 256 →
              (14 ≤ bs.length ∧ d ≤ 8 ∧ bs.length = 14 + d →
                ∃ r, judgeFrame a stop bs = .report r ∧ r.agent = a
                  ∧ bs[3]? = some r.seq ∧ bs[4]? = some r.kind
                  ∧ (bs.drop 5).take 4 = r.path.bytes
                  ∧ bs[9]? = some r.group ∧ bs[10]? = some r.code
                  ∧ r.detail = (bs.drop 12).take d)
              ∧ (¬ (14 ≤ bs.length ∧ d ≤ 8 ∧ bs.length = 14 + d) →
                judgeFrame a stop bs = .bad 2)))))

/-- A valid QUIET makes the agent ONLINE with miss count 0 and sets its stored verdict to (0, NONE).
No reply is a miss; a bad reply is a miss that queues a LINK raise. The miss count stops at 255. An
ONLINE agent whose count reaches its limit lapses, with the LAPSE cause and the lapse in its part
entry; the stored verdict and the last seq stay. The exchange is over, but for a reply of 23 bytes,
which holds the line. -/
def Obligations.QuietAndMisses : Prop :=
  ∀ (s : State) (x : Exchange) (y : Agent), s.clocked = true → s.link.line ≠ .sending →
    s.link.exchange = some x → x.fate = .live → x.judged = false →
    findAgent s.link.roster x.agent = some y →
    (∀ (stop : Bool) (bs : List Byte), judgeFrame x.agent stop bs = .quiet →
      ∃ t, exec (.replyJudge stop bs) s = .next t
        ∧ t = { s with link := t.link } ∧ t.link.exchange = none
        ∧ t.link.roster = s.link.roster.map (fun z => if z.address = x.agent then
            { z with state := .online, misses := 0, stored := (0, .none) } else z)
        ∧ t.link.queue = s.link.queue)
    ∧ ∀ (i : Instr) (linkCode : Option Byte) (lapse long : Bool),
      (i = .replyWindowClose ∧ linkCode = none ∧ long = false
        ∨ ∃ (stop : Bool) (bs : List Byte) (code : Byte), i = .replyJudge stop bs
          ∧ judgeFrame x.agent stop bs = .bad code ∧ linkCode = some code
          ∧ long = decide (22 < bs.length)) →
      lapse = (y.state == .online && decide (y.limit ≤ min 255 (y.misses + 1))) →
      ∃ t, exec i s = .next t
        ∧ t.link.exchange = (if long then some { x with judged := true } else none)
        ∧ t.link.line = (if long then .busy else .idle)
        ∧ t.link.roster = s.link.roster.map (fun z => if z.address = x.agent then
            { z with
              misses := min 255 (z.misses + 1)
              state := if z.state = .online ∧ z.limit ≤ min 255 (z.misses + 1) then .lapsed
                else z.state
              waiting := z.waiting || lapse || linkCode.isSome } else z)
        ∧ t.link.queue = s.link.queue ++
            (if lapse || linkCode.isSome then [.part x.agent linkCode lapse] else [])
        ∧ t = { s with
            link := t.link
            window := { s.window with
              cause := s.window.cause ||| (if lapse then 0x10 else 0) } }

/-- A valid REPORT makes the agent ONLINE. A replay makes no request and keeps the verdict; a new
report of seq 0 or an undefined kind is stored REFUSED_MALFORMED, one that finds a report entry in
the queue REFUSED_BUSY, and any other joins the queue with the verdict (0, NONE). A seq of 0 is
never a replay (log entry 15). -/
def Obligations.ReportsAreQueuedOnce : Prop :=
  ∀ (s : State) (x : Exchange) (y : Agent) (stop : Bool) (bs : List Byte) (r : Report),
    s.clocked = true → s.link.line ≠ .sending → s.link.exchange = some x → x.fate = .live →
    x.judged = false → findAgent s.link.roster x.agent = some y →
    judgeFrame x.agent stop bs = .report r →
    ∃ t, exec (.replyJudge stop bs) s = .next t ∧ t.link.exchange = none
      ∧ (r.seq ≠ 0 → r.seq = y.lastSeq →
          t.link.roster = s.link.roster.map (fun z => if z.address = x.agent then
              { z with state := .online, misses := 0 } else z)
            ∧ t.link.queue = s.link.queue)
      ∧ (r.seq = 0 ∨ (r.seq ≠ y.lastSeq ∧ r.kindOk = false) →
          t.link.roster = s.link.roster.map (fun z => if z.address = x.agent then
              { z with state := .online, misses := 0, stored := (r.seq, .refusedMalformed) }
              else z)
            ∧ t.link.queue = s.link.queue)
      ∧ (r.seq ≠ 0 → r.seq ≠ y.lastSeq → r.kindOk = true →
          s.link.queue.any LinkEntry.isReport = true →
          t.link.roster = s.link.roster.map (fun z => if z.address = x.agent then
              { z with state := .online, misses := 0, stored := (r.seq, .refusedBusy) } else z)
            ∧ t.link.queue = s.link.queue)
      ∧ (r.seq ≠ 0 → r.seq ≠ y.lastSeq → r.kindOk = true →
          s.link.queue.any LinkEntry.isReport = false →
          t.link.roster = s.link.roster.map (fun z => if z.address = x.agent then
              { z with state := .online, misses := 0, lastSeq := r.seq, stored := (0, .none),
                       waiting := true } else z)
            ∧ t.link.queue = s.link.queue ++ [.report r])
      ∧ t = { s with link := t.link }

/-- An exchange that a commit has overtaken: inside COMMITTING a valid REPORT with a new seq and a
valid kind and seq is stored REFUSED_BUSY, and after the commit nothing is; no other outcome is
recorded, no miss is counted and no request made. The line is free when it is over. -/
def Obligations.OvertakenExchanges : Prop :=
  ∀ (s : State) (x : Exchange), s.clocked = true → s.link.line ≠ .sending →
    s.link.exchange = some x → x.judged = false → x.fate = .busyOnly ∨ x.fate = .dropped →
    s.link.phase ≠ .polling →
    exec .replyWindowClose s = .next { s with
      link.exchange := none
      link.line := .idle }
    ∧ ∀ (stop : Bool) (bs : List Byte) (roster : List Agent),
      (∀ (r : Report) (y : Agent), judgeFrame x.agent stop bs = .report r →
        findAgent s.link.roster x.agent = some y →
        (x.fate = .busyOnly → r.seq ≠ 0 → r.seq ≠ y.lastSeq → 1 ≤ r.kind.toNat →
          r.kind.toNat ≤ 4 → roster = s.link.roster.map fun z =>
            if z.address = x.agent then { z with stored := (r.seq, .refusedBusy) } else z)
        ∧ (x.fate = .dropped ∨ r.seq = 0 ∨ r.seq = y.lastSeq ∨ r.kind.toNat < 1
            ∨ 4 < r.kind.toNat → roster = s.link.roster)) →
      ((∀ r, judgeFrame x.agent stop bs ≠ .report r) ∨ findAgent s.link.roster x.agent = none →
        roster = s.link.roster) →
      exec (.replyJudge stop bs) s = .next { s with
        link.roster := roster
        link.exchange := if 22 < bs.length then some { x with judged := true } else none
        link.line := if 22 < bs.length then .busy else .idle }

/-! ## Reports and part entries at the Table Engine -/

/-- The checks of an agent's report, the first that fails deciding the verdict: for RAISE and
RESTORE the path's form, the agent's home, the group and, for a RAISE, that the anchor is reachable;
for ARRIVE and DEPART the form of path, group and code, the home and, for an ARRIVE, that no strict
ancestor is ABSENT. The answer to a report entry: the head leaves the queue, and the verdict is
stored in the agent's record, which is no longer pending; a report past its checks is worked, with
the verdict of its raise or restore. -/
def Obligations.ReportsAreAnswered : Prop :=
  (∀ (s : State) (r : Report) (x : Agent) (home : Location) (scope group reach arrives : Bool),
    findAgent s.link.roster r.agent = some x → s.topo.locs[x.home]? = some home →
    home.path.station ≠ 0xFF → home.path.node = 0xFF → home.path.channel = 0xFF →
    (scope = true ↔ r.path.station = home.path.station
      ∧ (home.path.bay = 0 ∨ r.path.bay = home.path.bay)) →
    (group = true ↔ 9 ≤ r.group.toNat ∧ r.group.toNat ≤ 31
      ∧ (groupOf s.groups r.group).enabled = true) →
    (reach = true ↔ presenceAt s.topo.locs (anchorOf s.topo.locs r.path) ≠ .absent
      ∧ cut s.topo.locs (anchorOf s.topo.locs r.path) = false) →
    (∀ i, configured s.topo.locs r.path = some i →
      (arrives = true ↔ cut s.topo.locs i = false)) →
    (configured s.topo.locs r.path = none → arrives = reach) →
    restoreRefusal s r = (if r.path.wellFormed = false then some .refusedMalformed
        else if scope = false then some .refusedScope
        else if group = false then some .refusedGroup else none)
    ∧ raiseRefusal s r = (if r.path.wellFormed = false then some .refusedMalformed
        else if scope = false then some .refusedScope
        else if group = false then some .refusedGroup
        else if reach = false then some .refusedUnreachable else none)
    ∧ arriveRefusal s r = (if r.path.wellFormed = false ∨ r.path.channel ≠ 0xFF ∨ r.group ≠ 0
          then some .refusedMalformed
        else if scope = false then some .refusedScope
        else if arrives = false then some .refusedUnreachable else none)
    ∧ departRefusal s r = (if r.path.wellFormed = false ∨ r.path.channel ≠ 0xFF ∨ r.group ≠ 0
          ∨ r.code ≠ 0 then some .refusedMalformed
        else if scope = false then some .refusedScope else none))
  ∧ (∀ out : Raised, out.verdict = (match out with
      | .full => .refusedFull
      | .spent => .refusedSpent
      | .created => .accepted
      | .repeated => .accepted
      | .reactivated => .accepted
      | .momentary => .accepted))
  ∧ (∀ out : Restored, out.verdict = (match out with
      | .nothing => .nothingStanding
      | .latched => .refusedLatched
      | .restored => .accepted))
  ∧ ∀ (s : State) (r : Report) (rest : List LinkEntry) (v : Verdict), s.live = true →
    s.nextGrant = some .link → s.link.queue = .report r :: rest →
    ((r.kind = 1 ∧ raiseRefusal s r = some v → exec .reportRaise s = .next (refusedReport s r v))
      ∧ (r.kind = 2 ∧ restoreRefusal s r = some v →
          exec .reportRestore s = .next (refusedReport s r v))
      ∧ (r.kind = 3 ∧ arriveRefusal s r = some v →
          exec .reportArrive s = .next (refusedReport s r v))
      ∧ (r.kind = 4 ∧ departRefusal s r = some v →
          exec .reportDepart s = .next (refusedReport s r v)))
    ∧ (r.kind = 1 → raiseRefusal s r = none →
        ∃ t, exec .reportRaise s = .next t
          ∧ workedReport s t r
              ((taking s).raise ⟨⟨r.path, r.group, r.code⟩, r.detail, .agent r.agent⟩).1
              ((taking s).raise
                ⟨⟨r.path, r.group, r.code⟩, r.detail, .agent r.agent⟩).2.verdict)
    ∧ (r.kind = 2 → restoreRefusal s r = none →
        ∃ t, exec .reportRestore s = .next t
          ∧ workedReport s t r ((taking s).restore ⟨r.path, r.group, r.code⟩).1
              ((taking s).restore ⟨r.path, r.group, r.code⟩).2.verdict)
    ∧ (r.kind = 3 → arriveRefusal s r = none → configured s.topo.locs r.path = none →
        ∃ t, exec .reportArrive s = .next t
          ∧ workedReport s t r ((taking s).raise ⟨⟨r.path, 5, 0⟩, [r.code], .part⟩).1
              ((taking s).raise ⟨⟨r.path, 5, 0⟩, [r.code], .part⟩).2.verdict)
    ∧ (r.kind = 4 → departRefusal s r = none → configured s.topo.locs r.path = none →
        ∃ t, exec .reportDepart s = .next t
          ∧ workedReport s t r ((taking s).restore ⟨r.path, 5, 0⟩).1
              ((taking s).restore ⟨r.path, 5, 0⟩).2.verdict)

/-- An arrival at a configured location, in its order: presence becomes PRESENT where the kinds
match and FOREIGN otherwise, the F-mark is cleared, LOSS and SILENT are restored, MISMATCH is
restored on a match and raised otherwise, and a return from ABSENT or, where SILENT stood, from
UNVERIFIED raises RETURN; the verdict is ACCEPTED. -/
def Obligations.ArrivalAtConfiguredLocation : Prop :=
  ∀ (s : State) (r : Report) (rest : List LinkEntry) (i : Nat) (l : Location)
    (w1 w2 w3 w4 : Work), s.live = true →
    s.nextGrant = some .link → s.link.queue = .report r :: rest → r.kind = 3 →
    arriveRefusal s r = none → configured s.topo.locs r.path = some i → s.topo.locs[i]? = some l →
    w1 = { taking s with
      locs := markAt (setPresence s.topo.locs i
        (if l.kind = 0 ∨ l.kind = r.code then .present else .foreign)) .field i false } →
    w2 = ((((w1.restore ⟨l.path, 1, 1⟩).1).restore ⟨l.path, 1, 2⟩).1.restore ⟨l.path, 2, 0⟩).1 →
    w3 = (if l.kind = 0 ∨ l.kind = r.code then (w2.restore ⟨l.path, 4, 0⟩).1
      else (w2.raise ⟨⟨l.path, 4, 0⟩, [r.code, l.kind], .part⟩).1) →
    w4 = (if l.presence = .absent then (w3.raise ⟨⟨l.path, 3, 1⟩, [], .part⟩).1
      else if l.presence = .unverified ∧ (findKey s.engine.slots ⟨l.path, 2, 0⟩).isSome = true
        then (w3.raise ⟨⟨l.path, 3, 2⟩, [], .part⟩).1
      else w3) →
    ∃ t, exec .reportArrive s = .next t ∧ workedReport s t r w4 .accepted
      ∧ t.topo.locs.map (·.presence)
          = (setPresence s.topo.locs i
              (if l.kind = 0 ∨ l.kind = r.code then .present else .foreign)).map (·.presence)

/-- A departure of a configured location, in its order: presence becomes ABSENT, MISMATCH is
restored, and LOSS code 1 is raised unless an ancestor is lost already; the verdict is ACCEPTED. -/
def Obligations.DepartureOfConfiguredLocation : Prop :=
  ∀ (s : State) (r : Report) (rest : List LinkEntry) (i : Nat) (w1 w2 w3 : Work), s.live = true →
    s.nextGrant = some .link → s.link.queue = .report r :: rest → r.kind = 4 →
    departRefusal s r = none → configured s.topo.locs r.path = some i →
    w1 = { taking s with locs := setPresence s.topo.locs i .absent } →
    w2 = (w1.restore ⟨r.path, 4, 0⟩).1 →
    w3 = (if cut s.topo.locs i then w2 else (w2.raise ⟨⟨r.path, 1, 1⟩, [], .part⟩).1) →
    ∃ t, exec .reportDepart s = .next t ∧ workedReport s t r w3 .accepted
      ∧ t.topo.locs.map (·.presence)
          = (setPresence s.topo.locs i .absent).map (·.presence)

/-- A part entry is worked as one request: the LINK raise at the home first, then the lapse, which
makes the home ABSENT, restores MISMATCH and raises LOSS code 2 unless suppressed. Either step of an
entry with both works it whole (log entry 20). -/
def Obligations.PartEntriesAreWorkedWhole : Prop :=
  ∀ (s : State) (a : Byte) (x : Agent) (linkCode : Option Byte) (lapse : Bool)
    (rest : List LinkEntry) (w1 w2 : Work), s.live = true → s.nextGrant = some .link →
    s.link.queue = .part a linkCode lapse :: rest → findAgent s.link.roster a = some x →
    w1 = (match linkCode with
      | some c => ((taking s).raise ⟨⟨homePath s a, 7, c⟩, [], .part⟩).1
      | none => taking s) →
    w2 = ((({ w1 with locs := setPresence w1.locs x.home .absent } : Work).restore
        ⟨homePath s a, 4, 0⟩).1) →
    ∀ w : Work,
      w = (if lapse then
            (if cut w1.locs x.home then w2 else (w2.raise ⟨⟨homePath s a, 1, 2⟩, [], .part⟩).1)
          else w1) →
      (lapse = true → ∃ t, exec .lapseRequest s = .next t ∧ workedPart s t a w)
      ∧ (linkCode.isSome = true → ∃ t, exec .linkRaise s = .next t ∧ workedPart s t a w)

/-! ## Laws that every step keeps -/

/-- Every step keeps: TRIPPED exactly with FATAL_HELD above 0, GRANTED only in RUN, RUN only when
LOADED. -/
def Obligations.ReleaseLawKept : Prop :=
  ∀ s t : State, ReleaseLaw s → step s = .next t → ReleaseLaw t

/-- Every step keeps: outside a commit (log entry 13) the counts shown and the FATAL_HELD copy agree
with the table. -/
def Obligations.CountsLawKept : Prop :=
  ∀ s t : State, CountsLaw s → step s = .next t → CountsLaw t

/-- Every step keeps: keys of standing entries are distinct, their sequences distinct and below the
counter, and executed NOTICE goes with logged NOTICE. -/
def Obligations.TableLawsKept : Prop :=
  ∀ s t : State, KeyLaw s → SequenceLaw s → NoticeLaw s → ReservedLaw s → step s = .next t →
    KeyLaw t ∧ SequenceLaw t ∧ NoticeLaw t ∧ ReservedLaw t

/-- Every step keeps: the fixed fields of groups 1 to 8, the reserved indices, and the bound on the
standing FIELD entries. -/
def Obligations.SpaceLawKept : Prop :=
  ∀ s t : State, SpaceLaw s → step s = .next t → SpaceLaw t

/-- Every step keeps: ACTIVE_OWN and ACTIVE_BELOW of every location count the active entries at it
and below it; record 0 is the root and PRESENT, and the staging area holds its root; the paths of
both are configurable and distinct. -/
def Obligations.MapLawsKept : Prop :=
  ∀ s t : State, ReservedLaw s → RollUpLaw s → RootLaw s → PathLaw s → step s = .next t →
    ReservedLaw t ∧ RollUpLaw t ∧ RootLaw t ∧ PathLaw t

/-- Every step keeps: sweep marks stand only inside a CLEAR-DOMAIN, on entries that are not
latching, at indices the sweep has not reached. -/
def Obligations.SweepLawKept : Prop :=
  ∀ s t : State, ReservedLaw s → SweepLaw s → step s = .next t → SweepLaw t

/-- Every step keeps: the window runs one command at a time. -/
def Obligations.OneCommandLawKept : Prop :=
  ∀ s t : State, OneCommandLaw s → step s = .next t → OneCommandLaw t

/-- Every step keeps: the roster's order, the pending flags, the link queue's limits, and what
stands on the line in each phase of the round. -/
def Obligations.LinkLawKept : Prop :=
  ∀ s t : State, LinkLaw s → step s = .next t → LinkLaw t

/-- The laws hold right after cold reset. -/
def Obligations.LawsHoldAfterColdReset : Prop :=
  ReleaseLaw State.reset ∧ CountsLaw State.reset ∧ KeyLaw State.reset
    ∧ SequenceLaw State.reset ∧ NoticeLaw State.reset ∧ ReservedLaw State.reset
    ∧ SpaceLaw State.reset ∧ RollUpLaw State.reset ∧ SweepLaw State.reset
    ∧ RootLaw State.reset ∧ PathLaw State.reset ∧ OneCommandLaw State.reset ∧ LinkLaw State.reset

end Statements
end

