-- ==== Sys2Proof/Laws/State.lean ====
section
/-!
SUPPORT. What each named update of the state writes and what it leaves, field by field: every lemma
is true by rfl, so that no later proof unfolds a record update.
-/

namespace Sys2Proof.Machine

/-! ### setCause -/

@[simp] theorem setCause_port (s : State) (c : Byte) :
    (setCause s c).port = s.port := rfl

@[simp] theorem setCause_engine (s : State) (c : Byte) :
    (setCause s c).engine = s.engine := rfl

@[simp] theorem setCause_topo (s : State) (c : Byte) :
    (setCause s c).topo = s.topo := rfl

@[simp] theorem setCause_groups (s : State) (c : Byte) :
    (setCause s c).groups = s.groups := rfl

@[simp] theorem setCause_limits (s : State) (c : Byte) :
    (setCause s c).limits = s.limits := rfl

@[simp] theorem setCause_link (s : State) (c : Byte) :
    (setCause s c).link = s.link := rfl

@[simp] theorem setCause_release (s : State) (c : Byte) :
    (setCause s c).release = s.release := rfl

@[simp] theorem setCause_summary (s : State) (c : Byte) :
    (setCause s c).summary = s.summary := rfl

@[simp] theorem setCause_clock (s : State) (c : Byte) :
    (setCause s c).clock = s.clock := rfl

@[simp] theorem setCause_inReset (s : State) (c : Byte) :
    (setCause s c).inReset = s.inReset := rfl

@[simp] theorem setCause_resetnLow (s : State) (c : Byte) :
    (setCause s c).resetnLow = s.resetnLow := rfl

@[simp] theorem setCause_poweringUp (s : State) (c : Byte) :
    (setCause s c).poweringUp = s.poweringUp := rfl

@[simp] theorem setCause_clkPresent (s : State) (c : Byte) :
    (setCause s c).clkPresent = s.clkPresent := rfl

@[simp] theorem setCause_pending (s : State) (c : Byte) :
    (setCause s c).pending = s.pending := rfl

@[simp] theorem setCause_window_cmd (s : State) (c : Byte) :
    (setCause s c).window.cmd = s.window.cmd := rfl

@[simp] theorem setCause_window_cmdState (s : State) (c : Byte) :
    (setCause s c).window.cmdState = s.window.cmdState := rfl

@[simp] theorem setCause_window_overrun (s : State) (c : Byte) :
    (setCause s c).window.overrun = s.window.overrun := rfl

@[simp] theorem setCause_window_result (s : State) (c : Byte) :
    (setCause s c).window.result = s.window.result := rfl

@[simp] theorem setCause_window_cause (s : State) (c : Byte) :
    (setCause s c).window.cause = s.window.cause ||| c := rfl

@[simp] theorem setCause_window_enable (s : State) (c : Byte) :
    (setCause s c).window.enable = s.window.enable := rfl

@[simp] theorem setCause_window_counts (s : State) (c : Byte) :
    (setCause s c).window.counts = s.window.counts := rfl

@[simp] theorem setCause_window_stampLatch (s : State) (c : Byte) :
    (setCause s c).window.stampLatch = s.window.stampLatch := rfl

@[simp] theorem setCause_window_arg (s : State) (c : Byte) :
    (setCause s c).window.arg = s.window.arg := rfl

@[simp] theorem setCause_window_argCopy (s : State) (c : Byte) :
    (setCause s c).window.argCopy = s.window.argCopy := rfl

@[simp] theorem setCause_window_resp (s : State) (c : Byte) :
    (setCause s c).window.resp = s.window.resp := rfl

@[simp] theorem setCause_window_waiting (s : State) (c : Byte) :
    (setCause s c).window.waiting = s.window.waiting := rfl

@[simp] theorem setCause_window_restart (s : State) (c : Byte) :
    (setCause s c).window.restart = s.window.restart := rfl

@[simp] theorem setCause_window_heldSummary (s : State) (c : Byte) :
    (setCause s c).window.heldSummary = s.window.heldSummary := rfl

@[simp] theorem setCause_window_heldCounts (s : State) (c : Byte) :
    (setCause s c).window.heldCounts = s.window.heldCounts := rfl

/-! ### csnRise -/

@[simp] theorem csnRise_port (s : State) :
    (csnRise s).port = .released := rfl

@[simp] theorem csnRise_engine (s : State) :
    (csnRise s).engine = s.engine := rfl

@[simp] theorem csnRise_topo (s : State) :
    (csnRise s).topo = s.topo := rfl

@[simp] theorem csnRise_groups (s : State) :
    (csnRise s).groups = s.groups := rfl

@[simp] theorem csnRise_limits (s : State) :
    (csnRise s).limits = s.limits := rfl

@[simp] theorem csnRise_link (s : State) :
    (csnRise s).link = s.link := rfl

@[simp] theorem csnRise_release (s : State) :
    (csnRise s).release = s.release := rfl

@[simp] theorem csnRise_summary (s : State) :
    (csnRise s).summary = s.summary := rfl

@[simp] theorem csnRise_clock (s : State) :
    (csnRise s).clock = s.clock := rfl

@[simp] theorem csnRise_inReset (s : State) :
    (csnRise s).inReset = s.inReset := rfl

@[simp] theorem csnRise_resetnLow (s : State) :
    (csnRise s).resetnLow = s.resetnLow := rfl

@[simp] theorem csnRise_poweringUp (s : State) :
    (csnRise s).poweringUp = s.poweringUp := rfl

@[simp] theorem csnRise_clkPresent (s : State) :
    (csnRise s).clkPresent = s.clkPresent := rfl

@[simp] theorem csnRise_pending (s : State) :
    (csnRise s).pending = s.pending := rfl

@[simp] theorem csnRise_window_cmd (s : State) :
    (csnRise s).window.cmd = s.window.cmd := rfl

@[simp] theorem csnRise_window_cmdState (s : State) :
    (csnRise s).window.cmdState = s.window.cmdState := rfl

@[simp] theorem csnRise_window_overrun (s : State) :
    (csnRise s).window.overrun = s.window.overrun := rfl

@[simp] theorem csnRise_window_result (s : State) :
    (csnRise s).window.result = s.window.result := rfl

@[simp] theorem csnRise_window_cause (s : State) :
    (csnRise s).window.cause = s.window.cause := rfl

@[simp] theorem csnRise_window_enable (s : State) :
    (csnRise s).window.enable = s.window.enable := rfl

@[simp] theorem csnRise_window_counts (s : State) :
    (csnRise s).window.counts = s.window.counts := rfl

@[simp] theorem csnRise_window_stampLatch (s : State) :
    (csnRise s).window.stampLatch = s.window.stampLatch := rfl

@[simp] theorem csnRise_window_arg (s : State) :
    (csnRise s).window.arg = s.window.arg := rfl

@[simp] theorem csnRise_window_argCopy (s : State) :
    (csnRise s).window.argCopy = s.window.argCopy := rfl

@[simp] theorem csnRise_window_resp (s : State) :
    (csnRise s).window.resp = s.window.resp := rfl

@[simp] theorem csnRise_window_waiting (s : State) :
    (csnRise s).window.waiting = s.window.waiting := rfl

@[simp] theorem csnRise_window_restart (s : State) :
    (csnRise s).window.restart = s.window.restart := rfl

@[simp] theorem csnRise_window_heldSummary (s : State) :
    (csnRise s).window.heldSummary = none := rfl

@[simp] theorem csnRise_window_heldCounts (s : State) :
    (csnRise s).window.heldCounts = none := rfl

/-! ### takeCommand -/

@[simp] theorem takeCommand_port (code : Byte) (s : State) :
    (takeCommand code s).port = s.port := rfl

@[simp] theorem takeCommand_engine (code : Byte) (s : State) :
    (takeCommand code s).engine = s.engine := rfl

@[simp] theorem takeCommand_topo (code : Byte) (s : State) :
    (takeCommand code s).topo = s.topo := rfl

@[simp] theorem takeCommand_groups (code : Byte) (s : State) :
    (takeCommand code s).groups = s.groups := rfl

@[simp] theorem takeCommand_limits (code : Byte) (s : State) :
    (takeCommand code s).limits = s.limits := rfl

@[simp] theorem takeCommand_link (code : Byte) (s : State) :
    (takeCommand code s).link = s.link := rfl

@[simp] theorem takeCommand_release (code : Byte) (s : State) :
    (takeCommand code s).release = s.release := rfl

@[simp] theorem takeCommand_summary (code : Byte) (s : State) :
    (takeCommand code s).summary = s.summary := rfl

@[simp] theorem takeCommand_clock (code : Byte) (s : State) :
    (takeCommand code s).clock = s.clock := rfl

@[simp] theorem takeCommand_inReset (code : Byte) (s : State) :
    (takeCommand code s).inReset = s.inReset := rfl

@[simp] theorem takeCommand_resetnLow (code : Byte) (s : State) :
    (takeCommand code s).resetnLow = s.resetnLow := rfl

@[simp] theorem takeCommand_poweringUp (code : Byte) (s : State) :
    (takeCommand code s).poweringUp = s.poweringUp := rfl

@[simp] theorem takeCommand_clkPresent (code : Byte) (s : State) :
    (takeCommand code s).clkPresent = s.clkPresent := rfl

@[simp] theorem takeCommand_pending (code : Byte) (s : State) :
    (takeCommand code s).pending = s.pending := rfl

@[simp] theorem takeCommand_window_cmd (code : Byte) (s : State) :
    (takeCommand code s).window.cmd = code := rfl

@[simp] theorem takeCommand_window_cmdState (code : Byte) (s : State) :
    (takeCommand code s).window.cmdState = .busy := rfl

@[simp] theorem takeCommand_window_overrun (code : Byte) (s : State) :
    (takeCommand code s).window.overrun = false := rfl

@[simp] theorem takeCommand_window_result (code : Byte) (s : State) :
    (takeCommand code s).window.result = 0 := rfl

@[simp] theorem takeCommand_window_cause (code : Byte) (s : State) :
    (takeCommand code s).window.cause = s.window.cause := rfl

@[simp] theorem takeCommand_window_enable (code : Byte) (s : State) :
    (takeCommand code s).window.enable = s.window.enable := rfl

@[simp] theorem takeCommand_window_counts (code : Byte) (s : State) :
    (takeCommand code s).window.counts = s.window.counts := rfl

@[simp] theorem takeCommand_window_stampLatch (code : Byte) (s : State) :
    (takeCommand code s).window.stampLatch = s.window.stampLatch := rfl

@[simp] theorem takeCommand_window_arg (code : Byte) (s : State) :
    (takeCommand code s).window.arg = s.window.arg := rfl

@[simp] theorem takeCommand_window_argCopy (code : Byte) (s : State) :
    (takeCommand code s).window.argCopy = s.window.arg := rfl

@[simp] theorem takeCommand_window_resp (code : Byte) (s : State) :
    (takeCommand code s).window.resp = Vector.replicate 48 0 := rfl

@[simp] theorem takeCommand_window_waiting (code : Byte) (s : State) :
    (takeCommand code s).window.waiting = s.window.waiting := rfl

@[simp] theorem takeCommand_window_restart (code : Byte) (s : State) :
    (takeCommand code s).window.restart = s.window.restart := rfl

@[simp] theorem takeCommand_window_heldSummary (code : Byte) (s : State) :
    (takeCommand code s).window.heldSummary = s.window.heldSummary := rfl

@[simp] theorem takeCommand_window_heldCounts (code : Byte) (s : State) :
    (takeCommand code s).window.heldCounts = s.window.heldCounts := rfl

/-! ### refuseOverrun -/

@[simp] theorem refuseOverrun_port (s : State) :
    (refuseOverrun s).port = s.port := rfl

@[simp] theorem refuseOverrun_engine (s : State) :
    (refuseOverrun s).engine = s.engine := rfl

@[simp] theorem refuseOverrun_topo (s : State) :
    (refuseOverrun s).topo = s.topo := rfl

@[simp] theorem refuseOverrun_groups (s : State) :
    (refuseOverrun s).groups = s.groups := rfl

@[simp] theorem refuseOverrun_limits (s : State) :
    (refuseOverrun s).limits = s.limits := rfl

@[simp] theorem refuseOverrun_link (s : State) :
    (refuseOverrun s).link = s.link := rfl

@[simp] theorem refuseOverrun_release (s : State) :
    (refuseOverrun s).release = s.release := rfl

@[simp] theorem refuseOverrun_summary (s : State) :
    (refuseOverrun s).summary = s.summary := rfl

@[simp] theorem refuseOverrun_clock (s : State) :
    (refuseOverrun s).clock = s.clock := rfl

@[simp] theorem refuseOverrun_inReset (s : State) :
    (refuseOverrun s).inReset = s.inReset := rfl

@[simp] theorem refuseOverrun_resetnLow (s : State) :
    (refuseOverrun s).resetnLow = s.resetnLow := rfl

@[simp] theorem refuseOverrun_poweringUp (s : State) :
    (refuseOverrun s).poweringUp = s.poweringUp := rfl

@[simp] theorem refuseOverrun_clkPresent (s : State) :
    (refuseOverrun s).clkPresent = s.clkPresent := rfl

@[simp] theorem refuseOverrun_pending (s : State) :
    (refuseOverrun s).pending = s.pending := rfl

@[simp] theorem refuseOverrun_window_cmd (s : State) :
    (refuseOverrun s).window.cmd = s.window.cmd := rfl

@[simp] theorem refuseOverrun_window_cmdState (s : State) :
    (refuseOverrun s).window.cmdState = s.window.cmdState := rfl

@[simp] theorem refuseOverrun_window_overrun (s : State) :
    (refuseOverrun s).window.overrun = true := rfl

@[simp] theorem refuseOverrun_window_result (s : State) :
    (refuseOverrun s).window.result = s.window.result := rfl

@[simp] theorem refuseOverrun_window_cause (s : State) :
    (refuseOverrun s).window.cause = s.window.cause ||| Cause.overrun := rfl

@[simp] theorem refuseOverrun_window_enable (s : State) :
    (refuseOverrun s).window.enable = s.window.enable := rfl

@[simp] theorem refuseOverrun_window_counts (s : State) :
    (refuseOverrun s).window.counts = s.window.counts := rfl

@[simp] theorem refuseOverrun_window_stampLatch (s : State) :
    (refuseOverrun s).window.stampLatch = s.window.stampLatch := rfl

@[simp] theorem refuseOverrun_window_arg (s : State) :
    (refuseOverrun s).window.arg = s.window.arg := rfl

@[simp] theorem refuseOverrun_window_argCopy (s : State) :
    (refuseOverrun s).window.argCopy = s.window.argCopy := rfl

@[simp] theorem refuseOverrun_window_resp (s : State) :
    (refuseOverrun s).window.resp = s.window.resp := rfl

@[simp] theorem refuseOverrun_window_waiting (s : State) :
    (refuseOverrun s).window.waiting = s.window.waiting := rfl

@[simp] theorem refuseOverrun_window_restart (s : State) :
    (refuseOverrun s).window.restart = s.window.restart := rfl

@[simp] theorem refuseOverrun_window_heldSummary (s : State) :
    (refuseOverrun s).window.heldSummary = s.window.heldSummary := rfl

@[simp] theorem refuseOverrun_window_heldCounts (s : State) :
    (refuseOverrun s).window.heldCounts = s.window.heldCounts := rfl

/-! ### complete -/

@[simp] theorem complete_port (result : Byte) (response : List Byte) (s : State) :
    (complete result response s).port = s.port := rfl

@[simp] theorem complete_engine (result : Byte) (response : List Byte) (s : State) :
    (complete result response s).engine = s.engine := rfl

@[simp] theorem complete_topo (result : Byte) (response : List Byte) (s : State) :
    (complete result response s).topo = s.topo := rfl

@[simp] theorem complete_groups (result : Byte) (response : List Byte) (s : State) :
    (complete result response s).groups = s.groups := rfl

@[simp] theorem complete_limits (result : Byte) (response : List Byte) (s : State) :
    (complete result response s).limits = s.limits := rfl

@[simp] theorem complete_link (result : Byte) (response : List Byte) (s : State) :
    (complete result response s).link = s.link := rfl

@[simp] theorem complete_release (result : Byte) (response : List Byte) (s : State) :
    (complete result response s).release = s.release := rfl

@[simp] theorem complete_summary (result : Byte) (response : List Byte) (s : State) :
    (complete result response s).summary = s.summary := rfl

@[simp] theorem complete_clock (result : Byte) (response : List Byte) (s : State) :
    (complete result response s).clock = s.clock := rfl

@[simp] theorem complete_inReset (result : Byte) (response : List Byte) (s : State) :
    (complete result response s).inReset = s.inReset := rfl

@[simp] theorem complete_resetnLow (result : Byte) (response : List Byte) (s : State) :
    (complete result response s).resetnLow = s.resetnLow := rfl

@[simp] theorem complete_poweringUp (result : Byte) (response : List Byte) (s : State) :
    (complete result response s).poweringUp = s.poweringUp := rfl

@[simp] theorem complete_clkPresent (result : Byte) (response : List Byte) (s : State) :
    (complete result response s).clkPresent = s.clkPresent := rfl

@[simp] theorem complete_pending (result : Byte) (response : List Byte) (s : State) :
    (complete result response s).pending = s.pending := rfl

@[simp] theorem complete_window_cmd (result : Byte) (response : List Byte) (s : State) :
    (complete result response s).window.cmd = s.window.cmd := rfl

@[simp] theorem complete_window_cmdState (result : Byte) (response : List Byte) (s : State) :
    (complete result response s).window.cmdState = Result.completes result := rfl

@[simp] theorem complete_window_overrun (result : Byte) (response : List Byte) (s : State) :
    (complete result response s).window.overrun = s.window.overrun := rfl

@[simp] theorem complete_window_result (result : Byte) (response : List Byte) (s : State) :
    (complete result response s).window.result = result := rfl

@[simp] theorem complete_window_cause (result : Byte) (response : List Byte) (s : State) :
    (complete result response s).window.cause = s.window.cause ||| Cause.done := rfl

@[simp] theorem complete_window_enable (result : Byte) (response : List Byte) (s : State) :
    (complete result response s).window.enable = s.window.enable := rfl

@[simp] theorem complete_window_counts (result : Byte) (response : List Byte) (s : State) :
    (complete result response s).window.counts = s.window.counts := rfl

@[simp] theorem complete_window_stampLatch (result : Byte) (response : List Byte) (s : State) :
    (complete result response s).window.stampLatch = s.window.stampLatch := rfl

@[simp] theorem complete_window_arg (result : Byte) (response : List Byte) (s : State) :
    (complete result response s).window.arg = s.window.arg := rfl

@[simp] theorem complete_window_argCopy (result : Byte) (response : List Byte) (s : State) :
    (complete result response s).window.argCopy = s.window.argCopy := rfl

@[simp] theorem complete_window_resp (result : Byte) (response : List Byte) (s : State) :
    (complete result response s).window.resp = respOf response := rfl

@[simp] theorem complete_window_waiting (result : Byte) (response : List Byte) (s : State) :
    (complete result response s).window.waiting = s.window.waiting := rfl

@[simp] theorem complete_window_restart (result : Byte) (response : List Byte) (s : State) :
    (complete result response s).window.restart = s.window.restart := rfl

@[simp] theorem complete_window_heldSummary (result : Byte) (response : List Byte) (s : State) :
    (complete result response s).window.heldSummary = s.window.heldSummary := rfl

@[simp] theorem complete_window_heldCounts (result : Byte) (response : List Byte) (s : State) :
    (complete result response s).window.heldCounts = s.window.heldCounts := rfl

/-! ### storeWork -/

@[simp] theorem storeWork_window (s : State) (w : Work) :
    (storeWork s w).window = s.window := rfl

@[simp] theorem storeWork_port (s : State) (w : Work) :
    (storeWork s w).port = s.port := rfl

@[simp] theorem storeWork_groups (s : State) (w : Work) :
    (storeWork s w).groups = s.groups := rfl

@[simp] theorem storeWork_limits (s : State) (w : Work) :
    (storeWork s w).limits = s.limits := rfl

@[simp] theorem storeWork_link (s : State) (w : Work) :
    (storeWork s w).link = s.link := rfl

@[simp] theorem storeWork_release (s : State) (w : Work) :
    (storeWork s w).release = s.release := rfl

@[simp] theorem storeWork_summary (s : State) (w : Work) :
    (storeWork s w).summary = s.summary := rfl

@[simp] theorem storeWork_clock (s : State) (w : Work) :
    (storeWork s w).clock = s.clock := rfl

@[simp] theorem storeWork_inReset (s : State) (w : Work) :
    (storeWork s w).inReset = s.inReset := rfl

@[simp] theorem storeWork_resetnLow (s : State) (w : Work) :
    (storeWork s w).resetnLow = s.resetnLow := rfl

@[simp] theorem storeWork_poweringUp (s : State) (w : Work) :
    (storeWork s w).poweringUp = s.poweringUp := rfl

@[simp] theorem storeWork_clkPresent (s : State) (w : Work) :
    (storeWork s w).clkPresent = s.clkPresent := rfl

@[simp] theorem storeWork_pending (s : State) (w : Work) :
    (storeWork s w).pending = s.pending := rfl

@[simp] theorem storeWork_engine_slots (s : State) (w : Work) :
    (storeWork s w).engine.slots = w.slots := rfl

@[simp] theorem storeWork_engine_seqNext (s : State) (w : Work) :
    (storeWork s w).engine.seqNext = w.seqNext := rfl

@[simp] theorem storeWork_engine_seqSpent (s : State) (w : Work) :
    (storeWork s w).engine.seqSpent = w.seqSpent := rfl

@[simp] theorem storeWork_engine_cursors (s : State) (w : Work) :
    (storeWork s w).engine.cursors = s.engine.cursors := rfl

@[simp] theorem storeWork_engine_sweep (s : State) (w : Work) :
    (storeWork s w).engine.sweep = s.engine.sweep := rfl

@[simp] theorem storeWork_engine_lastGranted (s : State) (w : Work) :
    (storeWork s w).engine.lastGranted = s.engine.lastGranted := rfl

@[simp] theorem storeWork_topo_state (s : State) (w : Work) :
    (storeWork s w).topo.state = s.topo.state := rfl

@[simp] theorem storeWork_topo_locs (s : State) (w : Work) :
    (storeWork s w).topo.locs = w.locs := rfl

@[simp] theorem storeWork_topo_staged (s : State) (w : Work) :
    (storeWork s w).topo.staged = s.topo.staged := rfl

@[simp] theorem storeWork_topo_commitRetired (s : State) (w : Work) :
    (storeWork s w).topo.commitRetired = s.topo.commitRetired := rfl

@[simp] theorem storeWork_topo_verify (s : State) (w : Work) :
    (storeWork s w).topo.verify = s.topo.verify := rfl

/-! ### handEvents -/

@[simp] theorem handEvents_port (s : State) (events : List Event) (space : Bool) :
    (handEvents s events space).port = s.port := rfl

@[simp] theorem handEvents_engine (s : State) (events : List Event) (space : Bool) :
    (handEvents s events space).engine = s.engine := rfl

@[simp] theorem handEvents_topo (s : State) (events : List Event) (space : Bool) :
    (handEvents s events space).topo = s.topo := rfl

@[simp] theorem handEvents_groups (s : State) (events : List Event) (space : Bool) :
    (handEvents s events space).groups = s.groups := rfl

@[simp] theorem handEvents_limits (s : State) (events : List Event) (space : Bool) :
    (handEvents s events space).limits = s.limits := rfl

@[simp] theorem handEvents_link (s : State) (events : List Event) (space : Bool) :
    (handEvents s events space).link = s.link := rfl

@[simp] theorem handEvents_release (s : State) (events : List Event) (space : Bool) :
    (handEvents s events space).release = s.release := rfl

@[simp] theorem handEvents_summary (s : State) (events : List Event) (space : Bool) :
    (handEvents s events space).summary = (events.foldl Summary.applyEvent (s.summary, 0)).1 := rfl

@[simp] theorem handEvents_clock (s : State) (events : List Event) (space : Bool) :
    (handEvents s events space).clock = s.clock := rfl

@[simp] theorem handEvents_inReset (s : State) (events : List Event) (space : Bool) :
    (handEvents s events space).inReset = s.inReset := rfl

@[simp] theorem handEvents_resetnLow (s : State) (events : List Event) (space : Bool) :
    (handEvents s events space).resetnLow = s.resetnLow := rfl

@[simp] theorem handEvents_poweringUp (s : State) (events : List Event) (space : Bool) :
    (handEvents s events space).poweringUp = s.poweringUp := rfl

@[simp] theorem handEvents_clkPresent (s : State) (events : List Event) (space : Bool) :
    (handEvents s events space).clkPresent = s.clkPresent := rfl

@[simp] theorem handEvents_pending (s : State) (events : List Event) (space : Bool) :
    (handEvents s events space).pending = s.pending := rfl

@[simp] theorem handEvents_window_cmd (s : State) (events : List Event) (space : Bool) :
    (handEvents s events space).window.cmd = s.window.cmd := rfl

@[simp] theorem handEvents_window_cmdState (s : State) (events : List Event) (space : Bool) :
    (handEvents s events space).window.cmdState = s.window.cmdState := rfl

@[simp] theorem handEvents_window_overrun (s : State) (events : List Event) (space : Bool) :
    (handEvents s events space).window.overrun = s.window.overrun := rfl

@[simp] theorem handEvents_window_result (s : State) (events : List Event) (space : Bool) :
    (handEvents s events space).window.result = s.window.result := rfl

@[simp] theorem handEvents_window_enable (s : State) (events : List Event) (space : Bool) :
    (handEvents s events space).window.enable = s.window.enable := rfl

@[simp] theorem handEvents_window_counts (s : State) (events : List Event) (space : Bool) :
    (handEvents s events space).window.counts = s.window.counts := rfl

@[simp] theorem handEvents_window_stampLatch (s : State) (events : List Event) (space : Bool) :
    (handEvents s events space).window.stampLatch = s.window.stampLatch := rfl

@[simp] theorem handEvents_window_arg (s : State) (events : List Event) (space : Bool) :
    (handEvents s events space).window.arg = s.window.arg := rfl

@[simp] theorem handEvents_window_argCopy (s : State) (events : List Event) (space : Bool) :
    (handEvents s events space).window.argCopy = s.window.argCopy := rfl

@[simp] theorem handEvents_window_resp (s : State) (events : List Event) (space : Bool) :
    (handEvents s events space).window.resp = s.window.resp := rfl

@[simp] theorem handEvents_window_waiting (s : State) (events : List Event) (space : Bool) :
    (handEvents s events space).window.waiting = s.window.waiting := rfl

@[simp] theorem handEvents_window_restart (s : State) (events : List Event) (space : Bool) :
    (handEvents s events space).window.restart = s.window.restart := rfl

@[simp] theorem handEvents_window_heldSummary (s : State) (events : List Event) (space : Bool) :
    (handEvents s events space).window.heldSummary = s.window.heldSummary := rfl

@[simp] theorem handEvents_window_heldCounts (s : State) (events : List Event) (space : Bool) :
    (handEvents s events space).window.heldCounts = s.window.heldCounts := rfl

/-! ### handCounts -/

@[simp] theorem handCounts_port (s : State) :
    (handCounts s).port = s.port := rfl

@[simp] theorem handCounts_engine (s : State) :
    (handCounts s).engine = s.engine := rfl

@[simp] theorem handCounts_topo (s : State) :
    (handCounts s).topo = s.topo := rfl

@[simp] theorem handCounts_groups (s : State) :
    (handCounts s).groups = s.groups := rfl

@[simp] theorem handCounts_limits (s : State) :
    (handCounts s).limits = s.limits := rfl

@[simp] theorem handCounts_link (s : State) :
    (handCounts s).link = s.link := rfl

@[simp] theorem handCounts_release (s : State) :
    (handCounts s).release = s.release.handOff (fatalHeld s.engine.slots) := rfl

@[simp] theorem handCounts_summary (s : State) :
    (handCounts s).summary = s.summary := rfl

@[simp] theorem handCounts_clock (s : State) :
    (handCounts s).clock = s.clock := rfl

@[simp] theorem handCounts_inReset (s : State) :
    (handCounts s).inReset = s.inReset := rfl

@[simp] theorem handCounts_resetnLow (s : State) :
    (handCounts s).resetnLow = s.resetnLow := rfl

@[simp] theorem handCounts_poweringUp (s : State) :
    (handCounts s).poweringUp = s.poweringUp := rfl

@[simp] theorem handCounts_clkPresent (s : State) :
    (handCounts s).clkPresent = s.clkPresent := rfl

@[simp] theorem handCounts_pending (s : State) :
    (handCounts s).pending = s.pending := rfl

@[simp] theorem handCounts_window_cmd (s : State) :
    (handCounts s).window.cmd = s.window.cmd := rfl

@[simp] theorem handCounts_window_cmdState (s : State) :
    (handCounts s).window.cmdState = s.window.cmdState := rfl

@[simp] theorem handCounts_window_overrun (s : State) :
    (handCounts s).window.overrun = s.window.overrun := rfl

@[simp] theorem handCounts_window_result (s : State) :
    (handCounts s).window.result = s.window.result := rfl

@[simp] theorem handCounts_window_enable (s : State) :
    (handCounts s).window.enable = s.window.enable := rfl

@[simp] theorem handCounts_window_counts (s : State) :
    (handCounts s).window.counts = Counts.of s.engine.slots := rfl

@[simp] theorem handCounts_window_stampLatch (s : State) :
    (handCounts s).window.stampLatch = s.window.stampLatch := rfl

@[simp] theorem handCounts_window_arg (s : State) :
    (handCounts s).window.arg = s.window.arg := rfl

@[simp] theorem handCounts_window_argCopy (s : State) :
    (handCounts s).window.argCopy = s.window.argCopy := rfl

@[simp] theorem handCounts_window_resp (s : State) :
    (handCounts s).window.resp = s.window.resp := rfl

@[simp] theorem handCounts_window_waiting (s : State) :
    (handCounts s).window.waiting = s.window.waiting := rfl

@[simp] theorem handCounts_window_restart (s : State) :
    (handCounts s).window.restart = s.window.restart := rfl

@[simp] theorem handCounts_window_heldSummary (s : State) :
    (handCounts s).window.heldSummary = s.window.heldSummary := rfl

@[simp] theorem handCounts_window_heldCounts (s : State) :
    (handCounts s).window.heldCounts = s.window.heldCounts := rfl

/-! ### handOff -/

@[simp] theorem handOff_port (s : State) (w : Work) :
    (handOff s w).port = s.port := rfl

@[simp] theorem handOff_groups (s : State) (w : Work) :
    (handOff s w).groups = s.groups := rfl

@[simp] theorem handOff_limits (s : State) (w : Work) :
    (handOff s w).limits = s.limits := rfl

@[simp] theorem handOff_link (s : State) (w : Work) :
    (handOff s w).link = s.link := rfl

@[simp] theorem handOff_release (s : State) (w : Work) :
    (handOff s w).release = s.release.handOff (fatalHeld w.slots) := rfl

@[simp] theorem handOff_summary (s : State) (w : Work) :
    (handOff s w).summary = (w.events.foldl Summary.applyEvent (s.summary, 0)).1 := rfl

@[simp] theorem handOff_clock (s : State) (w : Work) :
    (handOff s w).clock = s.clock := rfl

@[simp] theorem handOff_inReset (s : State) (w : Work) :
    (handOff s w).inReset = s.inReset := rfl

@[simp] theorem handOff_resetnLow (s : State) (w : Work) :
    (handOff s w).resetnLow = s.resetnLow := rfl

@[simp] theorem handOff_poweringUp (s : State) (w : Work) :
    (handOff s w).poweringUp = s.poweringUp := rfl

@[simp] theorem handOff_clkPresent (s : State) (w : Work) :
    (handOff s w).clkPresent = s.clkPresent := rfl

@[simp] theorem handOff_pending (s : State) (w : Work) :
    (handOff s w).pending = s.pending := rfl

@[simp] theorem handOff_window_cmd (s : State) (w : Work) :
    (handOff s w).window.cmd = s.window.cmd := rfl

@[simp] theorem handOff_window_cmdState (s : State) (w : Work) :
    (handOff s w).window.cmdState = s.window.cmdState := rfl

@[simp] theorem handOff_window_overrun (s : State) (w : Work) :
    (handOff s w).window.overrun = s.window.overrun := rfl

@[simp] theorem handOff_window_result (s : State) (w : Work) :
    (handOff s w).window.result = s.window.result := rfl

@[simp] theorem handOff_window_enable (s : State) (w : Work) :
    (handOff s w).window.enable = s.window.enable := rfl

@[simp] theorem handOff_window_counts (s : State) (w : Work) :
    (handOff s w).window.counts = Counts.of w.slots := rfl

@[simp] theorem handOff_window_stampLatch (s : State) (w : Work) :
    (handOff s w).window.stampLatch = s.window.stampLatch := rfl

@[simp] theorem handOff_window_arg (s : State) (w : Work) :
    (handOff s w).window.arg = s.window.arg := rfl

@[simp] theorem handOff_window_argCopy (s : State) (w : Work) :
    (handOff s w).window.argCopy = s.window.argCopy := rfl

@[simp] theorem handOff_window_resp (s : State) (w : Work) :
    (handOff s w).window.resp = s.window.resp := rfl

@[simp] theorem handOff_window_waiting (s : State) (w : Work) :
    (handOff s w).window.waiting = s.window.waiting := rfl

@[simp] theorem handOff_window_restart (s : State) (w : Work) :
    (handOff s w).window.restart = s.window.restart := rfl

@[simp] theorem handOff_window_heldSummary (s : State) (w : Work) :
    (handOff s w).window.heldSummary = s.window.heldSummary := rfl

@[simp] theorem handOff_window_heldCounts (s : State) (w : Work) :
    (handOff s w).window.heldCounts = s.window.heldCounts := rfl

@[simp] theorem handOff_engine_slots (s : State) (w : Work) :
    (handOff s w).engine.slots = w.slots := rfl

@[simp] theorem handOff_engine_seqNext (s : State) (w : Work) :
    (handOff s w).engine.seqNext = w.seqNext := rfl

@[simp] theorem handOff_engine_seqSpent (s : State) (w : Work) :
    (handOff s w).engine.seqSpent = w.seqSpent := rfl

@[simp] theorem handOff_engine_cursors (s : State) (w : Work) :
    (handOff s w).engine.cursors = s.engine.cursors := rfl

@[simp] theorem handOff_engine_sweep (s : State) (w : Work) :
    (handOff s w).engine.sweep = s.engine.sweep := rfl

@[simp] theorem handOff_engine_lastGranted (s : State) (w : Work) :
    (handOff s w).engine.lastGranted = s.engine.lastGranted := rfl

@[simp] theorem handOff_topo_state (s : State) (w : Work) :
    (handOff s w).topo.state = s.topo.state := rfl

@[simp] theorem handOff_topo_locs (s : State) (w : Work) :
    (handOff s w).topo.locs = w.locs := rfl

@[simp] theorem handOff_topo_staged (s : State) (w : Work) :
    (handOff s w).topo.staged = s.topo.staged := rfl

@[simp] theorem handOff_topo_commitRetired (s : State) (w : Work) :
    (handOff s w).topo.commitRetired = s.topo.commitRetired := rfl

@[simp] theorem handOff_topo_verify (s : State) (w : Work) :
    (handOff s w).topo.verify = s.topo.verify := rfl

/-! ### granted -/

@[simp] theorem granted_window (src : Source) (s : State) :
    (granted src s).window = s.window := rfl

@[simp] theorem granted_port (src : Source) (s : State) :
    (granted src s).port = s.port := rfl

@[simp] theorem granted_topo (src : Source) (s : State) :
    (granted src s).topo = s.topo := rfl

@[simp] theorem granted_groups (src : Source) (s : State) :
    (granted src s).groups = s.groups := rfl

@[simp] theorem granted_limits (src : Source) (s : State) :
    (granted src s).limits = s.limits := rfl

@[simp] theorem granted_link (src : Source) (s : State) :
    (granted src s).link = s.link := rfl

@[simp] theorem granted_release (src : Source) (s : State) :
    (granted src s).release = s.release := rfl

@[simp] theorem granted_summary (src : Source) (s : State) :
    (granted src s).summary = s.summary := rfl

@[simp] theorem granted_clock (src : Source) (s : State) :
    (granted src s).clock = s.clock := rfl

@[simp] theorem granted_inReset (src : Source) (s : State) :
    (granted src s).inReset = s.inReset := rfl

@[simp] theorem granted_resetnLow (src : Source) (s : State) :
    (granted src s).resetnLow = s.resetnLow := rfl

@[simp] theorem granted_poweringUp (src : Source) (s : State) :
    (granted src s).poweringUp = s.poweringUp := rfl

@[simp] theorem granted_clkPresent (src : Source) (s : State) :
    (granted src s).clkPresent = s.clkPresent := rfl

@[simp] theorem granted_pending (src : Source) (s : State) :
    (granted src s).pending = s.pending := rfl

@[simp] theorem granted_engine_slots (src : Source) (s : State) :
    (granted src s).engine.slots = s.engine.slots := rfl

@[simp] theorem granted_engine_seqNext (src : Source) (s : State) :
    (granted src s).engine.seqNext = s.engine.seqNext := rfl

@[simp] theorem granted_engine_seqSpent (src : Source) (s : State) :
    (granted src s).engine.seqSpent = s.engine.seqSpent := rfl

@[simp] theorem granted_engine_cursors (src : Source) (s : State) :
    (granted src s).engine.cursors = s.engine.cursors := rfl

@[simp] theorem granted_engine_lastGranted (src : Source) (s : State) :
    (granted src s).engine.lastGranted = src := rfl

/-! ### setCursor -/

@[simp] theorem setCursor_window (n : Byte) (c : Cursor) (s : State) :
    (setCursor n c s).window = s.window := rfl

@[simp] theorem setCursor_port (n : Byte) (c : Cursor) (s : State) :
    (setCursor n c s).port = s.port := rfl

@[simp] theorem setCursor_topo (n : Byte) (c : Cursor) (s : State) :
    (setCursor n c s).topo = s.topo := rfl

@[simp] theorem setCursor_groups (n : Byte) (c : Cursor) (s : State) :
    (setCursor n c s).groups = s.groups := rfl

@[simp] theorem setCursor_limits (n : Byte) (c : Cursor) (s : State) :
    (setCursor n c s).limits = s.limits := rfl

@[simp] theorem setCursor_link (n : Byte) (c : Cursor) (s : State) :
    (setCursor n c s).link = s.link := rfl

@[simp] theorem setCursor_release (n : Byte) (c : Cursor) (s : State) :
    (setCursor n c s).release = s.release := rfl

@[simp] theorem setCursor_summary (n : Byte) (c : Cursor) (s : State) :
    (setCursor n c s).summary = s.summary := rfl

@[simp] theorem setCursor_clock (n : Byte) (c : Cursor) (s : State) :
    (setCursor n c s).clock = s.clock := rfl

@[simp] theorem setCursor_inReset (n : Byte) (c : Cursor) (s : State) :
    (setCursor n c s).inReset = s.inReset := rfl

@[simp] theorem setCursor_resetnLow (n : Byte) (c : Cursor) (s : State) :
    (setCursor n c s).resetnLow = s.resetnLow := rfl

@[simp] theorem setCursor_poweringUp (n : Byte) (c : Cursor) (s : State) :
    (setCursor n c s).poweringUp = s.poweringUp := rfl

@[simp] theorem setCursor_clkPresent (n : Byte) (c : Cursor) (s : State) :
    (setCursor n c s).clkPresent = s.clkPresent := rfl

@[simp] theorem setCursor_pending (n : Byte) (c : Cursor) (s : State) :
    (setCursor n c s).pending = s.pending := rfl

/-! ### startVerify -/

@[simp] theorem startVerify_window (s : State) :
    (startVerify s).window = s.window := rfl

@[simp] theorem startVerify_port (s : State) :
    (startVerify s).port = s.port := rfl

@[simp] theorem startVerify_engine (s : State) :
    (startVerify s).engine = s.engine := rfl

@[simp] theorem startVerify_groups (s : State) :
    (startVerify s).groups = s.groups := rfl

@[simp] theorem startVerify_limits (s : State) :
    (startVerify s).limits = s.limits := rfl

@[simp] theorem startVerify_link (s : State) :
    (startVerify s).link = s.link := rfl

@[simp] theorem startVerify_release (s : State) :
    (startVerify s).release = s.release := rfl

@[simp] theorem startVerify_summary (s : State) :
    (startVerify s).summary = s.summary := rfl

@[simp] theorem startVerify_clock (s : State) :
    (startVerify s).clock = s.clock := rfl

@[simp] theorem startVerify_inReset (s : State) :
    (startVerify s).inReset = s.inReset := rfl

@[simp] theorem startVerify_resetnLow (s : State) :
    (startVerify s).resetnLow = s.resetnLow := rfl

@[simp] theorem startVerify_poweringUp (s : State) :
    (startVerify s).poweringUp = s.poweringUp := rfl

@[simp] theorem startVerify_clkPresent (s : State) :
    (startVerify s).clkPresent = s.clkPresent := rfl

@[simp] theorem startVerify_pending (s : State) :
    (startVerify s).pending = s.pending := rfl

/-! ### stopVerify -/

@[simp] theorem stopVerify_window (s : State) :
    (stopVerify s).window = s.window := rfl

@[simp] theorem stopVerify_port (s : State) :
    (stopVerify s).port = s.port := rfl

@[simp] theorem stopVerify_engine (s : State) :
    (stopVerify s).engine = s.engine := rfl

@[simp] theorem stopVerify_groups (s : State) :
    (stopVerify s).groups = s.groups := rfl

@[simp] theorem stopVerify_limits (s : State) :
    (stopVerify s).limits = s.limits := rfl

@[simp] theorem stopVerify_link (s : State) :
    (stopVerify s).link = s.link := rfl

@[simp] theorem stopVerify_release (s : State) :
    (stopVerify s).release = s.release := rfl

@[simp] theorem stopVerify_summary (s : State) :
    (stopVerify s).summary = s.summary := rfl

@[simp] theorem stopVerify_clock (s : State) :
    (stopVerify s).clock = s.clock := rfl

@[simp] theorem stopVerify_inReset (s : State) :
    (stopVerify s).inReset = s.inReset := rfl

@[simp] theorem stopVerify_resetnLow (s : State) :
    (stopVerify s).resetnLow = s.resetnLow := rfl

@[simp] theorem stopVerify_poweringUp (s : State) :
    (stopVerify s).poweringUp = s.poweringUp := rfl

@[simp] theorem stopVerify_clkPresent (s : State) :
    (stopVerify s).clkPresent = s.clkPresent := rfl

@[simp] theorem stopVerify_pending (s : State) :
    (stopVerify s).pending = s.pending := rfl

/-! ### expire -/

@[simp] theorem expire_port (s : State) :
    (expire s).port = s.port := rfl

@[simp] theorem expire_engine (s : State) :
    (expire s).engine = s.engine := rfl

@[simp] theorem expire_groups (s : State) :
    (expire s).groups = s.groups := rfl

@[simp] theorem expire_limits (s : State) :
    (expire s).limits = s.limits := rfl

@[simp] theorem expire_link (s : State) :
    (expire s).link = s.link := rfl

@[simp] theorem expire_release (s : State) :
    (expire s).release = s.release := rfl

@[simp] theorem expire_summary (s : State) :
    (expire s).summary = s.summary := rfl

@[simp] theorem expire_clock (s : State) :
    (expire s).clock = s.clock := rfl

@[simp] theorem expire_inReset (s : State) :
    (expire s).inReset = s.inReset := rfl

@[simp] theorem expire_resetnLow (s : State) :
    (expire s).resetnLow = s.resetnLow := rfl

@[simp] theorem expire_poweringUp (s : State) :
    (expire s).poweringUp = s.poweringUp := rfl

@[simp] theorem expire_clkPresent (s : State) :
    (expire s).clkPresent = s.clkPresent := rfl

@[simp] theorem expire_pending (s : State) :
    (expire s).pending = s.pending := rfl

@[simp] theorem expire_window_cmd (s : State) :
    (expire s).window.cmd = s.window.cmd := rfl

@[simp] theorem expire_window_cmdState (s : State) :
    (expire s).window.cmdState = s.window.cmdState := rfl

@[simp] theorem expire_window_overrun (s : State) :
    (expire s).window.overrun = s.window.overrun := rfl

@[simp] theorem expire_window_result (s : State) :
    (expire s).window.result = s.window.result := rfl

@[simp] theorem expire_window_cause (s : State) :
    (expire s).window.cause = s.window.cause ||| Cause.verify := rfl

@[simp] theorem expire_window_enable (s : State) :
    (expire s).window.enable = s.window.enable := rfl

@[simp] theorem expire_window_counts (s : State) :
    (expire s).window.counts = s.window.counts := rfl

@[simp] theorem expire_window_stampLatch (s : State) :
    (expire s).window.stampLatch = s.window.stampLatch := rfl

@[simp] theorem expire_window_arg (s : State) :
    (expire s).window.arg = s.window.arg := rfl

@[simp] theorem expire_window_argCopy (s : State) :
    (expire s).window.argCopy = s.window.argCopy := rfl

@[simp] theorem expire_window_resp (s : State) :
    (expire s).window.resp = s.window.resp := rfl

@[simp] theorem expire_window_waiting (s : State) :
    (expire s).window.waiting = s.window.waiting := rfl

@[simp] theorem expire_window_restart (s : State) :
    (expire s).window.restart = s.window.restart := rfl

@[simp] theorem expire_window_heldSummary (s : State) :
    (expire s).window.heldSummary = s.window.heldSummary := rfl

@[simp] theorem expire_window_heldCounts (s : State) :
    (expire s).window.heldCounts = s.window.heldCounts := rfl

/-! ### withAgent -/

@[simp] theorem withAgent_window (a : Byte) (f : Agent → Agent) (s : State) :
    (withAgent a f s).window = s.window := rfl

@[simp] theorem withAgent_port (a : Byte) (f : Agent → Agent) (s : State) :
    (withAgent a f s).port = s.port := rfl

@[simp] theorem withAgent_engine (a : Byte) (f : Agent → Agent) (s : State) :
    (withAgent a f s).engine = s.engine := rfl

@[simp] theorem withAgent_topo (a : Byte) (f : Agent → Agent) (s : State) :
    (withAgent a f s).topo = s.topo := rfl

@[simp] theorem withAgent_groups (a : Byte) (f : Agent → Agent) (s : State) :
    (withAgent a f s).groups = s.groups := rfl

@[simp] theorem withAgent_limits (a : Byte) (f : Agent → Agent) (s : State) :
    (withAgent a f s).limits = s.limits := rfl

@[simp] theorem withAgent_release (a : Byte) (f : Agent → Agent) (s : State) :
    (withAgent a f s).release = s.release := rfl

@[simp] theorem withAgent_summary (a : Byte) (f : Agent → Agent) (s : State) :
    (withAgent a f s).summary = s.summary := rfl

@[simp] theorem withAgent_clock (a : Byte) (f : Agent → Agent) (s : State) :
    (withAgent a f s).clock = s.clock := rfl

@[simp] theorem withAgent_inReset (a : Byte) (f : Agent → Agent) (s : State) :
    (withAgent a f s).inReset = s.inReset := rfl

@[simp] theorem withAgent_resetnLow (a : Byte) (f : Agent → Agent) (s : State) :
    (withAgent a f s).resetnLow = s.resetnLow := rfl

@[simp] theorem withAgent_poweringUp (a : Byte) (f : Agent → Agent) (s : State) :
    (withAgent a f s).poweringUp = s.poweringUp := rfl

@[simp] theorem withAgent_clkPresent (a : Byte) (f : Agent → Agent) (s : State) :
    (withAgent a f s).clkPresent = s.clkPresent := rfl

@[simp] theorem withAgent_pending (a : Byte) (f : Agent → Agent) (s : State) :
    (withAgent a f s).pending = s.pending := rfl

@[simp] theorem withAgent_link_roster (a : Byte) (f : Agent → Agent) (s : State) :
    (withAgent a f s).link.roster = updateAgent s.link.roster a f := rfl

@[simp] theorem withAgent_link_queue (a : Byte) (f : Agent → Agent) (s : State) :
    (withAgent a f s).link.queue = s.link.queue := rfl

@[simp] theorem withAgent_link_phase (a : Byte) (f : Agent → Agent) (s : State) :
    (withAgent a f s).link.phase = s.link.phase := rfl

@[simp] theorem withAgent_link_position (a : Byte) (f : Agent → Agent) (s : State) :
    (withAgent a f s).link.position = s.link.position := rfl

@[simp] theorem withAgent_link_exchange (a : Byte) (f : Agent → Agent) (s : State) :
    (withAgent a f s).link.exchange = s.link.exchange := rfl

@[simp] theorem withAgent_link_line (a : Byte) (f : Agent → Agent) (s : State) :
    (withAgent a f s).link.line = s.link.line := rfl

/-! ### enqueue -/

@[simp] theorem enqueue_window (a : Byte) (e : LinkEntry) (s : State) :
    (enqueue a e s).window = s.window := rfl

@[simp] theorem enqueue_port (a : Byte) (e : LinkEntry) (s : State) :
    (enqueue a e s).port = s.port := rfl

@[simp] theorem enqueue_engine (a : Byte) (e : LinkEntry) (s : State) :
    (enqueue a e s).engine = s.engine := rfl

@[simp] theorem enqueue_topo (a : Byte) (e : LinkEntry) (s : State) :
    (enqueue a e s).topo = s.topo := rfl

@[simp] theorem enqueue_groups (a : Byte) (e : LinkEntry) (s : State) :
    (enqueue a e s).groups = s.groups := rfl

@[simp] theorem enqueue_limits (a : Byte) (e : LinkEntry) (s : State) :
    (enqueue a e s).limits = s.limits := rfl

@[simp] theorem enqueue_release (a : Byte) (e : LinkEntry) (s : State) :
    (enqueue a e s).release = s.release := rfl

@[simp] theorem enqueue_summary (a : Byte) (e : LinkEntry) (s : State) :
    (enqueue a e s).summary = s.summary := rfl

@[simp] theorem enqueue_clock (a : Byte) (e : LinkEntry) (s : State) :
    (enqueue a e s).clock = s.clock := rfl

@[simp] theorem enqueue_inReset (a : Byte) (e : LinkEntry) (s : State) :
    (enqueue a e s).inReset = s.inReset := rfl

@[simp] theorem enqueue_resetnLow (a : Byte) (e : LinkEntry) (s : State) :
    (enqueue a e s).resetnLow = s.resetnLow := rfl

@[simp] theorem enqueue_poweringUp (a : Byte) (e : LinkEntry) (s : State) :
    (enqueue a e s).poweringUp = s.poweringUp := rfl

@[simp] theorem enqueue_clkPresent (a : Byte) (e : LinkEntry) (s : State) :
    (enqueue a e s).clkPresent = s.clkPresent := rfl

@[simp] theorem enqueue_pending (a : Byte) (e : LinkEntry) (s : State) :
    (enqueue a e s).pending = s.pending := rfl

@[simp] theorem enqueue_link_roster (a : Byte) (e : LinkEntry) (s : State) :
    (enqueue a e s).link.roster = updateAgent s.link.roster a fun x => { x with waiting := true } := rfl

@[simp] theorem enqueue_link_queue (a : Byte) (e : LinkEntry) (s : State) :
    (enqueue a e s).link.queue = s.link.queue ++ [e] := rfl

@[simp] theorem enqueue_link_phase (a : Byte) (e : LinkEntry) (s : State) :
    (enqueue a e s).link.phase = s.link.phase := rfl

@[simp] theorem enqueue_link_position (a : Byte) (e : LinkEntry) (s : State) :
    (enqueue a e s).link.position = s.link.position := rfl

@[simp] theorem enqueue_link_exchange (a : Byte) (e : LinkEntry) (s : State) :
    (enqueue a e s).link.exchange = s.link.exchange := rfl

@[simp] theorem enqueue_link_line (a : Byte) (e : LinkEntry) (s : State) :
    (enqueue a e s).link.line = s.link.line := rfl

/-! ### dequeue -/

@[simp] theorem dequeue_window (a : Byte) (s : State) :
    (dequeue a s).window = s.window := rfl

@[simp] theorem dequeue_port (a : Byte) (s : State) :
    (dequeue a s).port = s.port := rfl

@[simp] theorem dequeue_engine (a : Byte) (s : State) :
    (dequeue a s).engine = s.engine := rfl

@[simp] theorem dequeue_topo (a : Byte) (s : State) :
    (dequeue a s).topo = s.topo := rfl

@[simp] theorem dequeue_groups (a : Byte) (s : State) :
    (dequeue a s).groups = s.groups := rfl

@[simp] theorem dequeue_limits (a : Byte) (s : State) :
    (dequeue a s).limits = s.limits := rfl

@[simp] theorem dequeue_release (a : Byte) (s : State) :
    (dequeue a s).release = s.release := rfl

@[simp] theorem dequeue_summary (a : Byte) (s : State) :
    (dequeue a s).summary = s.summary := rfl

@[simp] theorem dequeue_clock (a : Byte) (s : State) :
    (dequeue a s).clock = s.clock := rfl

@[simp] theorem dequeue_inReset (a : Byte) (s : State) :
    (dequeue a s).inReset = s.inReset := rfl

@[simp] theorem dequeue_resetnLow (a : Byte) (s : State) :
    (dequeue a s).resetnLow = s.resetnLow := rfl

@[simp] theorem dequeue_poweringUp (a : Byte) (s : State) :
    (dequeue a s).poweringUp = s.poweringUp := rfl

@[simp] theorem dequeue_clkPresent (a : Byte) (s : State) :
    (dequeue a s).clkPresent = s.clkPresent := rfl

@[simp] theorem dequeue_pending (a : Byte) (s : State) :
    (dequeue a s).pending = s.pending := rfl

/-! ### answerReport -/

@[simp] theorem answerReport_window (r : Report) (v : Verdict) (s : State) :
    (answerReport r v s).window = s.window := rfl

@[simp] theorem answerReport_port (r : Report) (v : Verdict) (s : State) :
    (answerReport r v s).port = s.port := rfl

@[simp] theorem answerReport_engine (r : Report) (v : Verdict) (s : State) :
    (answerReport r v s).engine = s.engine := rfl

@[simp] theorem answerReport_topo (r : Report) (v : Verdict) (s : State) :
    (answerReport r v s).topo = s.topo := rfl

@[simp] theorem answerReport_groups (r : Report) (v : Verdict) (s : State) :
    (answerReport r v s).groups = s.groups := rfl

@[simp] theorem answerReport_limits (r : Report) (v : Verdict) (s : State) :
    (answerReport r v s).limits = s.limits := rfl

@[simp] theorem answerReport_release (r : Report) (v : Verdict) (s : State) :
    (answerReport r v s).release = s.release := rfl

@[simp] theorem answerReport_summary (r : Report) (v : Verdict) (s : State) :
    (answerReport r v s).summary = s.summary := rfl

@[simp] theorem answerReport_clock (r : Report) (v : Verdict) (s : State) :
    (answerReport r v s).clock = s.clock := rfl

@[simp] theorem answerReport_inReset (r : Report) (v : Verdict) (s : State) :
    (answerReport r v s).inReset = s.inReset := rfl

@[simp] theorem answerReport_resetnLow (r : Report) (v : Verdict) (s : State) :
    (answerReport r v s).resetnLow = s.resetnLow := rfl

@[simp] theorem answerReport_poweringUp (r : Report) (v : Verdict) (s : State) :
    (answerReport r v s).poweringUp = s.poweringUp := rfl

@[simp] theorem answerReport_clkPresent (r : Report) (v : Verdict) (s : State) :
    (answerReport r v s).clkPresent = s.clkPresent := rfl

@[simp] theorem answerReport_pending (r : Report) (v : Verdict) (s : State) :
    (answerReport r v s).pending = s.pending := rfl

/-! ### startGap -/

@[simp] theorem startGap_window (s : State) :
    (startGap s).window = s.window := rfl

@[simp] theorem startGap_port (s : State) :
    (startGap s).port = s.port := rfl

@[simp] theorem startGap_engine (s : State) :
    (startGap s).engine = s.engine := rfl

@[simp] theorem startGap_topo (s : State) :
    (startGap s).topo = s.topo := rfl

@[simp] theorem startGap_groups (s : State) :
    (startGap s).groups = s.groups := rfl

@[simp] theorem startGap_limits (s : State) :
    (startGap s).limits = s.limits := rfl

@[simp] theorem startGap_release (s : State) :
    (startGap s).release = s.release := rfl

@[simp] theorem startGap_summary (s : State) :
    (startGap s).summary = s.summary := rfl

@[simp] theorem startGap_clock (s : State) :
    (startGap s).clock = s.clock := rfl

@[simp] theorem startGap_inReset (s : State) :
    (startGap s).inReset = s.inReset := rfl

@[simp] theorem startGap_resetnLow (s : State) :
    (startGap s).resetnLow = s.resetnLow := rfl

@[simp] theorem startGap_poweringUp (s : State) :
    (startGap s).poweringUp = s.poweringUp := rfl

@[simp] theorem startGap_clkPresent (s : State) :
    (startGap s).clkPresent = s.clkPresent := rfl

@[simp] theorem startGap_pending (s : State) :
    (startGap s).pending = s.pending := rfl

/-! ### latchStamp -/

@[simp] theorem latchStamp_port (s : State) :
    (latchStamp s).port = s.port := rfl

@[simp] theorem latchStamp_engine (s : State) :
    (latchStamp s).engine = s.engine := rfl

@[simp] theorem latchStamp_topo (s : State) :
    (latchStamp s).topo = s.topo := rfl

@[simp] theorem latchStamp_groups (s : State) :
    (latchStamp s).groups = s.groups := rfl

@[simp] theorem latchStamp_limits (s : State) :
    (latchStamp s).limits = s.limits := rfl

@[simp] theorem latchStamp_link (s : State) :
    (latchStamp s).link = s.link := rfl

@[simp] theorem latchStamp_release (s : State) :
    (latchStamp s).release = s.release := rfl

@[simp] theorem latchStamp_summary (s : State) :
    (latchStamp s).summary = s.summary := rfl

@[simp] theorem latchStamp_clock (s : State) :
    (latchStamp s).clock = s.clock := rfl

@[simp] theorem latchStamp_inReset (s : State) :
    (latchStamp s).inReset = s.inReset := rfl

@[simp] theorem latchStamp_resetnLow (s : State) :
    (latchStamp s).resetnLow = s.resetnLow := rfl

@[simp] theorem latchStamp_poweringUp (s : State) :
    (latchStamp s).poweringUp = s.poweringUp := rfl

@[simp] theorem latchStamp_clkPresent (s : State) :
    (latchStamp s).clkPresent = s.clkPresent := rfl

@[simp] theorem latchStamp_pending (s : State) :
    (latchStamp s).pending = s.pending := rfl

/-! ### State.withPending -/

@[simp] theorem State.withPending_window (s : State) (q : List Instr) :
    (s.withPending q).window = s.window := rfl

@[simp] theorem State.withPending_port (s : State) (q : List Instr) :
    (s.withPending q).port = s.port := rfl

@[simp] theorem State.withPending_engine (s : State) (q : List Instr) :
    (s.withPending q).engine = s.engine := rfl

@[simp] theorem State.withPending_topo (s : State) (q : List Instr) :
    (s.withPending q).topo = s.topo := rfl

@[simp] theorem State.withPending_groups (s : State) (q : List Instr) :
    (s.withPending q).groups = s.groups := rfl

@[simp] theorem State.withPending_limits (s : State) (q : List Instr) :
    (s.withPending q).limits = s.limits := rfl

@[simp] theorem State.withPending_link (s : State) (q : List Instr) :
    (s.withPending q).link = s.link := rfl

@[simp] theorem State.withPending_release (s : State) (q : List Instr) :
    (s.withPending q).release = s.release := rfl

@[simp] theorem State.withPending_summary (s : State) (q : List Instr) :
    (s.withPending q).summary = s.summary := rfl

@[simp] theorem State.withPending_clock (s : State) (q : List Instr) :
    (s.withPending q).clock = s.clock := rfl

@[simp] theorem State.withPending_inReset (s : State) (q : List Instr) :
    (s.withPending q).inReset = s.inReset := rfl

@[simp] theorem State.withPending_resetnLow (s : State) (q : List Instr) :
    (s.withPending q).resetnLow = s.resetnLow := rfl

@[simp] theorem State.withPending_poweringUp (s : State) (q : List Instr) :
    (s.withPending q).poweringUp = s.poweringUp := rfl

@[simp] theorem State.withPending_clkPresent (s : State) (q : List Instr) :
    (s.withPending q).clkPresent = s.clkPresent := rfl

@[simp] theorem State.withPending_pending (s : State) (q : List Instr) :
    (s.withPending q).pending = q := rfl

end Sys2Proof.Machine
end

