-- ==== Sys2Proof/Laws/Link.lean ====
section
/-!
SUPPORT. What the shared operations of the report link can do, one lemma for each case: coming to the
next agent, the end of an exchange, a POLL, a miss, and the bytes that hold the line.
-/

namespace Sys2Proof.Machine

/-! ## Coming to the next agent -/

/-- The next agent of the round that is not pending is come to (R112). -/
theorem comeToNext_to (s : State) (x : Agent)
    (h : (agentsLeft s.link).find? (fun y => !y.waiting) = some x) :
    comeToNext s = { s with link.phase := .calling, link.position := some x.address } := by
  unfold comeToNext
  rw [h]

/-- Every agent left is pending: the gap begins (R112). -/
theorem comeToNext_over (s : State) (h : ∀ y ∈ agentsLeft s.link, y.waiting = true) :
    comeToNext s = { s with
      link.phase := .gap s.limits.pollGap
      link.position := lastAddress s.link.roster } := by
  unfold comeToNext
  rw [List.find?_eq_none.mpr fun y hy => by simp [h y hy]]
  rfl

/-- Coming to the next agent moves the phase and the position alone. -/
theorem comeToNext_changes (s : State) : ∃ phase position,
    comeToNext s = { s with link := { s.link with phase := phase, position := position } } := by
  unfold comeToNext
  split
  · exact ⟨_, _, rfl⟩
  · exact ⟨_, _, rfl⟩

/-! ## The end of an exchange -/

/-- The end of an exchange in a running round comes to the next agent (R112). -/
theorem endExchange_polling (s : State) (h : s.link.phase = .polling) :
    endExchange s = comeToNext { s with link.exchange := none, link.line := .idle } := by
  unfold endExchange
  rw [if_pos h]

/-- The end of an exchange outside its round frees the line (R105, R123, R124). -/
theorem endExchange_other (s : State) (h : s.link.phase ≠ .polling) :
    endExchange s = { s with link.exchange := none, link.line := .idle } := by
  unfold endExchange
  rw [if_neg h]

/-- The end of an exchange leaves nothing on the line, and moves the phase and the position alone. -/
theorem endExchange_changes (s : State) : ∃ phase position,
    endExchange s = { s with link := { s.link with
      exchange := none, line := .idle, phase := phase, position := position } } := by
  by_cases h : s.link.phase = .polling
  · obtain ⟨phase, position, hc⟩ :=
      comeToNext_changes { s with link.exchange := none, link.line := .idle }
    exact ⟨phase, position, (endExchange_polling s h).trans hc⟩
  · exact ⟨_, _, endExchange_other s h⟩

/-! ## POLL -/

/-- While a POLL is sent, the step POLL is the end of the sending (R104). -/
theorem execPoll_sending (s : State) (hc : s.clocked = true) (h : s.link.line = .sending) :
    execPoll s = .next { s with link.line := .idle } := by
  unfold execPoll
  rw [if_pos hc, if_pos h]

/-- A POLL that is due is sent to the agent come to (R113). -/
theorem execPoll_due (s : State) (a : Byte) (x : Agent) (h : s.pollDue = true)
    (hp : s.link.position = some a) (hx : findAgent s.link.roster a = some x) :
    execPoll s = .next { s with
      link.phase := .polling
      link.exchange := some ⟨x.address, pollFrame x, .live, false⟩
      link.line := .sending } := by
  have hd := h
  unfold State.pollDue at hd
  simp only [Bool.and_eq_true, beq_iff_eq] at hd
  unfold execPoll
  rw [if_pos hd.1.1.1.1, if_neg (by rw [hd.2]; decide), if_pos h]
  unfold sendPoll
  rw [hp, Option.bind_some, hx]

/-! ## Listening -/

/-- While a POLL is sent no reply is judged (R104, R126). -/
theorem execReplyJudge_sending (stop : Bool) (bytes : List Byte) (s : State)
    (h : s.link.line = .sending) : execReplyJudge stop bytes s = .next s := by
  unfold execReplyJudge State.listens
  simp [h]

/-- While a POLL is sent its reply window has not opened (R105). -/
theorem execReplyWindowClose_sending (s : State) (h : s.link.line = .sending) :
    execReplyWindowClose s = .next s := by
  unfold execReplyWindowClose State.listens
  cases s.link.exchange <;> simp [h]

/-! ## A miss -/

/-- A miss of an agent that is not in the roster changes nothing. -/
theorem miss_unknown (a : Byte) (code : Option Byte) (s : State)
    (h : findAgent s.link.roster a = none) : miss a code s = s := by
  unfold miss
  rw [h]

/-- A miss queues a part entry for a lapse, for a bad reply, or for both (R120, R121). -/
theorem miss_queue (a : Byte) (code : Option Byte) (s : State) (x : Agent)
    (h : findAgent s.link.roster a = some x) :
    (miss a code s).link.queue = s.link.queue ++
      if x.lapses || code.isSome then [.part a code x.lapses] else [] := by
  unfold miss
  rw [h]
  cases hl : x.lapses <;> cases code.isSome <;> simp [hl, setCause]

/-- A miss sets the LAPSE cause exactly when the agent lapses (R120). -/
theorem miss_cause (a : Byte) (code : Option Byte) (s : State) (x : Agent)
    (h : findAgent s.link.roster a = some x) :
    (miss a code s).window =
      { s.window with cause := s.window.cause ||| if x.lapses then Cause.lapse else 0 } := by
  unfold miss
  rw [h]
  cases hl : x.lapses <;> cases code.isSome <;> simp [hl, setCause]

/-! ## Bytes that hold the line -/

/-- Discarded bytes that have not ended hold the line (R105). -/
theorem discardBytes_long (bytes : List Byte) (s : State) (h : Config.frameMax < bytes.length) :
    discardBytes bytes s = { s with link.line := .busy } := by
  unfold discardBytes
  rw [if_pos h]

/-- Discarded bytes that have ended free the line, and end an exchange whose reply is judged
(R105). -/
theorem discardBytes_short (bytes : List Byte) (s : State) (h : bytes.length ≤ Config.frameMax) :
    discardBytes bytes s
      = if s.link.exchange.isSome then endExchange s else { s with link.line := .idle } := by
  unfold discardBytes
  rw [if_neg (Nat.not_lt.mpr h)]

end Sys2Proof.Machine
end

