-- ==== Sys2Proof/Laws/Table.lean ====
section
/-!
SUPPORT. The Condition Table as data: reading after a write, counting after a write, and what the
searches for a key, a free index and the oldest entry answer.
-/

namespace Sys2Proof.Machine

/-! ## Reading after a write -/

theorem slots_set_get (slots : Vector Slot 128) (i j : Fin 128) (x : Slot) :
    (slots.set i.val x i.isLt)[j] = if i = j then x else slots[j] := by
  simp only [Fin.getElem_fin, Vector.getElem_set, Fin.ext_iff]

@[simp] theorem Work.entry_put (w : Work) (i j : Fin 128) (e : Entry) :
    (w.put i e).entry j = if i = j then some e else w.entry j := by
  unfold Work.entry Work.put
  simp only [slots_set_get]
  split <;> rfl

theorem Work.gen_put (w : Work) (i j : Fin 128) (e : Entry) :
    (w.put i e).slots[j].gen = w.slots[j].gen := by
  unfold Work.put
  simp only [slots_set_get]
  split
  · next h => subst h; rfl
  · rfl

/-- A retirement leaves the index FREE with its generation one higher, and no other index changed
(R26). -/
theorem Work.slots_retireEntry (w : Work) (i j : Fin 128) (e : Entry) (h : w.entry i = some e) :
    (w.retireEntry i).slots[j] = if i = j then ⟨w.slots[i].gen + 1, none⟩ else w.slots[j] := by
  unfold Work.retireEntry
  rw [h]
  exact slots_set_get _ _ _ _

theorem Work.entry_retireEntry (w : Work) (i j : Fin 128) :
    (w.retireEntry i).entry j = if i = j then none else w.entry j := by
  cases h : w.entry i with
  | none =>
    have : w.retireEntry i = w := by unfold Work.retireEntry; rw [h]
    rw [this]
    split
    · next e => subst e; exact h
    · rfl
  | some e =>
    have h1 := w.slots_retireEntry i j e h
    unfold Work.entry
    rw [h1]
    split <;> rfl

/-! ## Counting after a write -/

/-- What one slot adds to a count. -/
def slotCounts (p : Entry → Bool) (sl : Slot) : Bool :=
  match sl.entry with
  | some e => p e
  | none => false

theorem countEntries_eq (slots : Vector Slot 128) (p : Entry → Bool) :
    countEntries slots p = slots.toList.countP (slotCounts p) := rfl

/-- A count after one slot is replaced: the old slot's part leaves, the new one's joins. -/
theorem countEntries_set (slots : Vector Slot 128) (i : Fin 128) (x : Slot) (p : Entry → Bool) :
    countEntries (slots.set i.val x i.isLt) p + (if slotCounts p slots[i] then 1 else 0)
      = countEntries slots p + (if slotCounts p x then 1 else 0) := by
  have hl : i.val < slots.toList.length := by simp
  have hp := List.countP_set (p := slotCounts p) (a := x) hl
  have hg : slots.toList[i.val]'hl = slots[i] := by simp
  rw [hg] at hp
  have hpos : (if slotCounts p slots[i] then 1 else 0) ≤ slots.toList.countP (slotCounts p) := by
    split
    · next h =>
      refine List.countP_pos_iff.mpr ⟨slots[i], ?_, h⟩
      rw [← hg]
      exact List.getElem_mem hl
    · exact Nat.zero_le _
  rw [countEntries_eq, countEntries_eq, Vector.toList_set]
  omega

/-- A count is 0 exactly when no standing entry satisfies p. -/
theorem countEntries_eq_zero (slots : Vector Slot 128) (p : Entry → Bool) :
    countEntries slots p = 0 ↔
      ∀ (i : Fin 128) (e : Entry), slots[i].entry = some e → p e = false := by
  rw [countEntries_eq, List.countP_eq_zero]
  constructor
  · intro h i e he
    have := h slots[i] (by simp)
    unfold slotCounts at this
    rw [he] at this
    simpa using this
  · intro h sl hm
    obtain ⟨k, hk, rfl⟩ := List.getElem_of_mem hm
    have hk' : k < 128 := by simpa using hk
    unfold slotCounts
    have := h ⟨k, hk'⟩
    simp only [Fin.getElem_fin] at this
    simp only [Vector.getElem_toList]
    cases he : slots[k].entry with
    | none => simp
    | some e => simp [this e he]

/-! ## Searches -/

/-- findKey answers an index whose standing entry has the key. -/
theorem findKey_some (slots : Vector Slot 128) (k : Key) (i : Fin 128)
    (h : findKey slots k = some i) : ∃ e, slots[i].entry = some e ∧ e.key = k := by
  have hf := List.find?_some h
  cases he : slots[i].entry with
  | none => rw [he] at hf; cases hf
  | some e =>
    rw [he] at hf
    exact ⟨e, rfl, by simpa using hf⟩

/-- findKey answers none only where no standing entry has the key. -/
theorem findKey_none (slots : Vector Slot 128) (k : Key) :
    findKey slots k = none ↔
      ∀ (i : Fin 128) (e : Entry), slots[i].entry = some e → e.key ≠ k := by
  unfold findKey
  rw [List.find?_eq_none]
  constructor
  · intro h i e he hk
    have hf := h i (List.mem_finRange i)
    rw [he] at hf
    exact hf (by simpa using hk)
  · intro h i _
    cases he : slots[i].entry with
    | none => exact Bool.false_ne_true
    | some e => simpa using h i e he

/-- The free index is a FREE one of the general pool, and the lowest (R89). -/
theorem lowestFree_some (slots : Vector Slot 128) (i : Fin 128) (h : lowestFree slots = some i) :
    i.val < Config.generalSize ∧ slots[i].entry = none := by
  have := List.find?_some h
  simpa using this

/-- The oldest entry is a standing one among those listed that satisfies p; its sequence is
answered with it. -/
theorem oldest_some (slots : Vector Slot 128) (p : Fin 128 → Entry → Bool) (l : List (Fin 128))
    (i : Fin 128) (n : Nat) (h : oldest slots p l = some (i, n)) :
    i ∈ l ∧ ∃ e, slots[i].entry = some e ∧ p i e = true ∧ e.seq = n := by
  induction l generalizing i n with
  | nil => simp [oldest] at h
  | cons j rest ih =>
    unfold oldest at h
    cases he : slots[j].entry with
    | none =>
      rw [he] at h
      have := ih i n h
      exact ⟨List.mem_cons_of_mem _ this.1, this.2⟩
    | some e =>
      rw [he] at h
      dsimp only at h
      by_cases hp : p j e = true
      · rw [if_pos hp] at h
        cases ho : oldest slots p rest with
        | none =>
          rw [ho] at h
          injection h with h
          injection h with h1 h2
          subst h1; subst h2
          exact ⟨List.mem_cons_self, e, he, hp, rfl⟩
        | some q =>
          obtain ⟨k, m⟩ := q
          rw [ho] at h
          dsimp only at h
          by_cases hlt : m < e.seq
          · rw [if_pos hlt] at h
            injection h with h
            injection h with h1 h2
            subst h1; subst h2
            have := ih k m ho
            exact ⟨List.mem_cons_of_mem _ this.1, this.2⟩
          · rw [if_neg hlt] at h
            injection h with h
            injection h with h1 h2
            subst h1; subst h2
            exact ⟨List.mem_cons_self, e, he, hp, rfl⟩
      · rw [if_neg hp] at h
        have := ih i n h
        exact ⟨List.mem_cons_of_mem _ this.1, this.2⟩

/-- No listed entry satisfies p when oldest answers none. -/
theorem oldest_none (slots : Vector Slot 128) (p : Fin 128 → Entry → Bool) (l : List (Fin 128))
    (h : oldest slots p l = none) (i : Fin 128) (hi : i ∈ l) (e : Entry)
    (he : slots[i].entry = some e) : p i e = false := by
  induction l with
  | nil => cases hi
  | cons j rest ih =>
    unfold oldest at h
    rcases List.mem_cons.mp hi with rfl | hr
    · rw [he] at h
      by_cases hp : p i e = true
      · simp only [hp, if_true] at h
        cases ho : oldest slots p rest with
        | none => rw [ho] at h; simp at h
        | some q => rw [ho] at h; dsimp only at h; split at h <;> simp at h
      · simpa using hp
    · refine ih ?_ hr
      cases hj : slots[j].entry with
      | none => rw [hj] at h; exact h
      | some f =>
        rw [hj] at h
        dsimp only at h
        split at h
        · cases ho : oldest slots p rest with
          | none => rfl
          | some q => rw [ho] at h; dsimp only at h; split at h <;> simp at h
        · exact h

/-- No listed entry that satisfies p is older than the one oldest answers (R90, R166). -/
theorem oldest_le (slots : Vector Slot 128) (p : Fin 128 → Entry → Bool) (l : List (Fin 128))
    (i : Fin 128) (n : Nat) (h : oldest slots p l = some (i, n)) (j : Fin 128) (hj : j ∈ l)
    (f : Entry) (hf : slots[j].entry = some f) (hp : p j f = true) : n ≤ f.seq := by
  induction l generalizing i n with
  | nil => cases hj
  | cons k rest ih =>
    unfold oldest at h
    rcases List.mem_cons.mp hj with rfl | hr
    · rw [hf] at h
      dsimp only at h
      rw [if_pos hp] at h
      cases ho : oldest slots p rest with
      | none => rw [ho] at h; simp at h; omega
      | some q =>
        obtain ⟨a, m⟩ := q
        rw [ho] at h
        dsimp only at h
        by_cases hlt : m < f.seq
        · rw [if_pos hlt] at h; simp at h; omega
        · rw [if_neg hlt] at h; simp at h; omega
    · cases hk : slots[k].entry with
      | none => rw [hk] at h; exact ih i n h hr
      | some e =>
        rw [hk] at h
        dsimp only at h
        by_cases hpe : p k e = true
        · rw [if_pos hpe] at h
          cases ho : oldest slots p rest with
          | none => exact absurd hp (by rw [oldest_none slots p rest ho j hr f hf]; simp)
          | some q =>
            obtain ⟨a, m⟩ := q
            rw [ho] at h
            dsimp only at h
            have hm := ih a m ho hr
            by_cases hlt : m < e.seq
            · rw [if_pos hlt] at h; simp at h; omega
            · rw [if_neg hlt] at h; simp at h; omega
        · rw [if_neg hpe] at h; exact ih i n h hr

end Sys2Proof.Machine
end

