-- ==== Sys2Proof/Laws/Window.lean ====
section
/-!
SUPPORT. What giving a command, a data byte, the sampling of RESETN, an expiry, presenting a request
and taking a step do, one lemma for each case, and the values after cold reset that later proofs
read.
-/

namespace Sys2Proof.Machine

/-! ## Giving a command -/

/-- The part is clocked exactly when it is live and CLK is present (R203). -/
theorem clocked_iff (s : State) : s.clocked = true ↔ s.live = true ∧ s.clkPresent = true := by
  unfold State.clocked
  simp

/-- A command given while the window can take it is handed to its owner (R192). -/
theorem giveCommand_takes (code : Byte) (owner : State → State) (s : State) (h : s.takes) :
    giveCommand code owner s = owner (s.taken code) := by
  unfold giveCommand
  rw [if_neg (by simp [h.1, h.2.1]), if_neg h.2.2]
  rfl

/-- A command given while the window is BUSY is refused with OVERRUN (R193). -/
theorem giveCommand_busy (code : Byte) (owner : State → State) (s : State)
    (hc : s.clocked = true) (hp : s.port ≠ .cut) (hb : s.window.cmdState = .busy) :
    giveCommand code owner s = refuseOverrun (csnRise s) := by
  unfold giveCommand
  rw [if_neg (by simp [hc, hp]), if_pos hb]

/-- A command given in cold reset, without CLK, or at the end of a transaction that cold reset has
cut off, is not taken; its transaction ends (R186, R188, R203). -/
theorem giveCommand_dropped (code : Byte) (owner : State → State) (s : State)
    (h : s.clocked = false ∨ s.port = .cut) : giveCommand code owner s = csnRise s := by
  unfold giveCommand
  rw [if_pos h]

/-! ## Data bytes -/

/-- A data byte that opens its transaction, or belongs to one that runs, is applied; the port and
the snapshots are those of CSN (R188). -/
theorem writeByte_runs (address : BitVec 7) (b : DataByte) (s : State) (hl : s.live = true)
    (h : b.csn.opens = true ∨ s.port.writes = true) : ∃ port summary counts,
    writeByte address b s = { writeAt address b.value s with
      port := port
      window := { (writeAt address b.value s).window with
        heldSummary := summary, heldCounts := counts } } := by
  have split_writeAt : ∀ (t : State) (port : Port) (summary : Option (BitVec 16))
      (counts : Option Counts),
      writeAt address b.value { t with
          port := port, window := { t.window with heldSummary := summary, heldCounts := counts } }
        = { writeAt address b.value t with
            port := port
            window := { (writeAt address b.value t).window with
              heldSummary := summary, heldCounts := counts } } := by
    intro t port summary counts
    unfold writeAt
    split
    · rfl
    · split
      · rfl
      · split <;> rfl
  unfold writeByte applyByte
  rw [if_pos hl]
  cases ho : b.csn.opens
  · have hw : s.port.writes = true := by simpa [ho] using h
    simp only [Bool.false_eq_true, if_false, hw, if_true]
    cases b.csn.closes
    · exact ⟨_, (writeAt address b.value s).window.heldSummary,
        (writeAt address b.value s).window.heldCounts, rfl⟩
    · exact ⟨_, _, _, rfl⟩
  · have opened := split_writeAt s (.writing address none) none none
    simp only [if_true, csnRise, Port.writes, opened]
    cases b.csn.closes
    · exact ⟨_, _, _, rfl⟩
    · exact ⟨_, _, _, rfl⟩

/-- A data byte of no running write transaction is not applied (R188). -/
theorem writeByte_stray (address : BitVec 7) (b : DataByte) (s : State) (hl : s.live = true)
    (ho : b.csn.opens = false) (hw : s.port.writes = false) :
    writeByte address b s = if b.csn.closes then csnRise s else s := by
  unfold writeByte applyByte
  simp [hl, ho, hw]

/-- In cold reset a data byte moves the port alone: its first byte begins a transaction that is cut
off, its last one ends it (R186, R188). -/
theorem writeByte_held (address : BitVec 7) (b : DataByte) (s : State) (hl : s.live = false) :
    writeByte address b s = if b.csn.closes then csnRise s
      else if b.csn.opens then { s with port := .cut } else s := by
  unfold writeByte
  simp [hl]

/-! ## RESETN and CLK -/

/-- CLK samples a low RESETN: cold reset is entered (R203). -/
theorem sampleReset_low (s : State) (hc : s.clkPresent = true) (h : s.resetnLow = true) :
    sampleReset s = coldReset s := by
  unfold sampleReset
  simp [hc, h]

/-- CLK samples a high RESETN: cold reset is left, unless power-up holds it (R203). -/
theorem sampleReset_high (s : State) (hc : s.clkPresent = true) (h : s.resetnLow = false) :
    sampleReset s = if s.poweringUp then s else { s with inReset := false } := by
  unfold sampleReset
  simp [hc, h]

/-- Without CLK, RESETN is not seen (R203). -/
theorem sampleReset_without_clk (s : State) (hc : s.clkPresent = false) : sampleReset s = s := by
  unfold sampleReset
  rw [if_pos hc]

/-! ## The verify window -/

/-- No expiry is due once the due one has been made (R65). -/
theorem expireIfDue_notDue (s : State) : (expireIfDue s).expiryDue = false := by
  unfold expireIfDue
  split
  · rfl
  · next h => simpa using h

/-- With no expiry due there is nothing to make. -/
theorem expireIfDue_of_notDue (s : State) (h : s.expiryDue = false) : expireIfDue s = s := by
  unfold expireIfDue
  rw [if_neg (by simp [h])]

/-! ## Presenting a request -/

/-- With no other source waiting and no commit and no sweep at work, the window is granted next,
whichever source was granted last (R14). -/
theorem grantsWindow_alone (s : State) (hc : s.topo.state ≠ .committing) (hs : s.engine.sweep = none)
    (hq : s.link.queue = []) (hv : s.topo.verify.waiting = false) : s.grantsWindow := by
  have ho : ({ s with window.waiting := true } : State).engineOpen = true := by
    unfold State.engineOpen
    rw [show ({ s with window.waiting := true } : State).engine.sweep = none from hs]
    simpa using hc
  unfold State.grantsWindow State.nextGrant
  rw [if_pos ho]
  have hl : ({ s with window.waiting := true } : State).waits .link = false := by
    unfold State.waits
    dsimp only
    rw [hq]
    rfl
  have hwin : ({ s with window.waiting := true } : State).waits .window = true := rfl
  have hver : ({ s with window.waiting := true } : State).waits .verify = false := hv
  cases s.engine.lastGranted <;> simp [rotationAfter, List.find?, hl, hwin, hver]

/-- A window request that the engine is free to grant is granted at once (R14; log entry 2). -/
theorem presentRequest_free (work : State → State) (s : State) (h : s.grantsWindow) :
    presentRequest .free work s = work { granted .window s with window.waiting := false } := by
  unfold presentRequest
  dsimp only
  rw [if_pos ⟨rfl, h⟩]
  rfl

/-- A window request presented to an engaged engine waits (R14). -/
theorem presentRequest_engaged (work : State → State) (s : State) :
    presentRequest .engaged work s = { s with window.waiting := true } := by
  unfold presentRequest
  dsimp only
  rw [if_neg (by rintro ⟨h, _⟩; cases h)]

/-- A command whose owner is the Table Engine, granted at its taking (R192, R197). -/
theorem giveRequest_free (code : Byte) (work : State → State) (s : State) (h : s.takes)
    (hg : s.grantsWindow) :
    giveCommand code (presentRequest .free work) s = work (s.atGrant code) := by
  rw [giveCommand_takes _ _ _ h, presentRequest_free]
  · rfl
  · exact hg

/-! ## Taking a step -/

/-- Nothing pending: the part idles (log entry 4). -/
theorem step_idle (s : State) (h : s.pending = []) : step s = .next s := by
  unfold step
  rw [h]

/-! ## After cold reset -/

@[simp] theorem entry_reset (i : Fin 128) : State.reset.engine.slots[i].entry = none := by
  show (Vector.replicate 128 Slot.reset)[i].entry = none
  simp [Slot.reset]

theorem countEntries_reset (p : Entry → Bool) :
    countEntries State.reset.engine.slots p = 0 := by
  show (Vector.replicate 128 Slot.reset).toList.countP _ = 0
  simp [Slot.reset]

end Sys2Proof.Machine
end

