-- ==== Sys2Proof/Laws/Work.lean ====
section
/-!
SUPPORT. What a request can do to the Table Engine's work, said once: every operation of
Machine/Ops.lean is a chain of the primitive changes below, so a law kept by each primitive change
is kept by every operation.
-/

namespace Sys2Proof.Machine

/-! ## The primitive changes -/

/-- The counts of the map after the entry e became e' (R51). -/
def moveCount (locs : List Location) (e e' : Entry) : List Location :=
  if e.state.active = e'.state.active then locs
  else if e'.state.active then countUp locs e.anchor
  else countDown locs e.anchor

/-- A change that creates nothing: one standing entry updated, or retired. -/
inductive Work.Ease : Work → Work → Prop where
  | update (w : Work) (i : Fin 128) (e e' : Entry) (events : List Event)
      (found : w.entry i = some e)
      (key : e'.key = e.key) (seq : e'.seq = e.seq) (anchor : e'.anchor = e.anchor)
      (domain : e'.domain = e.domain) (logged : e'.logged = e.logged)
      (latching : e'.latching = e.latching)
      (executed : e'.executed = e.executed
        ∨ ∃ g esc, e'.executed = executedAction g w.mode e.logged esc)
      (mark : e'.sweepMark = true → e.sweepMark = true) :
      Work.Ease w { w.put i e' with locs := moveCount w.locs e e', events := events }
  | retire (w : Work) (i : Fin 128) (e : Entry) (found : w.entry i = some e) :
      Work.Ease w (w.retireEntry i)

/-- A chain of changes that create nothing. -/
abbrev Work.Eases : Work → Work → Prop := Relation.ReflTransGen Work.Ease

/-- Any primitive change: an ease, a creation in a FREE index, a flag, a mark, a presence. -/
inductive Work.Change : Work → Work → Prop where
  | ease (w w' : Work) (h : Work.Ease w w') : Work.Change w w'
  | create (w : Work) (i : Fin 128) (e : Entry) (events : List Event)
      (free : w.entry i = none)
      (fresh : ∀ (j : Fin 128) (f : Entry), w.entry j = some f → f.key ≠ e.key)
      (seq : e.seq = w.seqNext) (counter : w.seqNext ≤ Config.lastSequence)
      (anchor : e.anchor = anchorOf w.locs e.key.path)
      (domain : e.domain = (w.group e.key.group).domain)
      (executed : ∃ g esc, e.executed = executedAction g w.mode e.logged esc)
      (mark : e.sweepMark = false)
      (place : (∃ d, i = tableFullIndex d ∧ e.key = tableFullKey d)
        ∨ (i.val < Config.generalSize ∧ ∀ d, e.key ≠ tableFullKey d)) :
      Work.Change w
        { w.put i e with
          seqNext := w.seqNext + 1, events := events,
          locs := if e.state.active then countUp w.locs e.anchor else w.locs }
  | flags (w : Work) (spent space : Bool) :
      Work.Change w { w with seqSpent := spent, space := space }
  | mark (w : Work) (d : Domain) (a : Nat) (b : Bool) :
      Work.Change w { w with locs := markAt w.locs d a b }
  | presence (w : Work) (i : Nat) (p : Presence) :
      Work.Change w { w with locs := setPresence w.locs i p }

/-- A chain of primitive changes. -/
abbrev Work.Changes : Work → Work → Prop := Relation.ReflTransGen Work.Change

theorem Work.changes_of_eases {w w' : Work} (h : Work.Eases w w') : Work.Changes w w' := by
  induction h with
  | refl => exact .refl
  | tail _ h ih => exact ih.tail (.ease _ _ h)

/-! ## What no operation moves -/

/-- The values read at the taking stay for the whole request (R9, R31, R89). -/
structure Work.SameTaking (w w' : Work) : Prop where
  now : w'.now = w.now
  mode : w'.mode = w.mode
  groups : w'.groups = w.groups
  reserve : w'.reserve = w.reserve

theorem Work.Ease.sameTaking {w w' : Work} (h : Work.Ease w w') : Work.SameTaking w w' := by
  cases h with
  | update i e e' events => exact ⟨rfl, rfl, rfl, rfl⟩
  | retire i e found =>
    unfold Work.retireEntry
    rw [found]
    exact ⟨rfl, rfl, rfl, rfl⟩

theorem Work.Change.sameTaking {w w' : Work} (h : Work.Change w w') : Work.SameTaking w w' := by
  cases h with
  | ease w' h => exact h.sameTaking
  | create i e events => exact ⟨rfl, rfl, rfl, rfl⟩
  | flags => exact ⟨rfl, rfl, rfl, rfl⟩
  | mark => exact ⟨rfl, rfl, rfl, rfl⟩
  | presence => exact ⟨rfl, rfl, rfl, rfl⟩

theorem Work.sameTaking_of_changes {w w' : Work} (h : Work.Changes w w') : Work.SameTaking w w' := by
  induction h with
  | refl => exact ⟨rfl, rfl, rfl, rfl⟩
  | tail _ h ih =>
    have h1 := h.sameTaking
    exact ⟨h1.now.trans ih.now, h1.mode.trans ih.mode, h1.groups.trans ih.groups,
      h1.reserve.trans ih.reserve⟩

/-! ## Retirement, restore and hysteresis -/

theorem moveCount_same (locs : List Location) (e e' : Entry)
    (h : e.state.active = e'.state.active) : moveCount locs e e' = locs := if_pos h

/-- One entry updated, with the counts moved as its state asks. -/
theorem Work.update_eases (w : Work) (i : Fin 128) (e e' : Entry) (locs : List Location)
    (events : List Event) (found : w.entry i = some e)
    (key : e'.key = e.key) (seq : e'.seq = e.seq) (anchor : e'.anchor = e.anchor)
    (domain : e'.domain = e.domain) (logged : e'.logged = e.logged)
    (latching : e'.latching = e.latching)
    (executed : e'.executed = e.executed
      ∨ ∃ g esc, e'.executed = executedAction g w.mode e.logged esc)
    (mark : e'.sweepMark = true → e.sweepMark = true) (counts : moveCount w.locs e e' = locs) :
    Work.Eases w { w.put i e' with locs := locs, events := events } := by
  subst counts
  exact .single (.update w i e e' events found key seq anchor domain logged latching executed mark)

theorem Work.retireEntry_eases (w : Work) (i : Fin 128) : Work.Eases w (w.retireEntry i) := by
  cases h : w.entry i with
  | none =>
    have : w.retireEntry i = w := by unfold Work.retireEntry; rw [h]
    rw [this]
  | some e => exact Relation.ReflTransGen.single (.retire w i e h)

theorem Work.restoreWith_eases (retire : Work → Fin 128 → Work)
    (hr : ∀ w i, Work.Eases w (retire w i)) (w : Work) (i : Fin 128) :
    Work.Eases w (w.restoreWith retire i).1 := by
  unfold Work.restoreWith
  cases h : w.entry i with
  | none => exact .refl
  | some e =>
    dsimp only
    by_cases hl : e.latching = true
    · rw [if_pos hl]
    · rw [if_neg hl]
      cases hs : e.state with
      | activeUnack =>
        exact update_eases w i e { e with state := .clearedUnack } _ w.events h rfl rfl rfl rfl rfl
          rfl (.inl rfl) id (by unfold moveCount; rw [hs]; rfl)
      | activeAck => exact hr w i
      | clearedUnack => exact .refl

theorem Work.hysteresisOf_eases (w : Work) (d : Domain) : Work.Eases w (w.hysteresisOf d) := by
  unfold Work.hysteresisOf
  split
  · split
    · exact restoreWith_eases _ retireEntry_eases w _
    · exact .refl
  · exact .refl

/-- Without room nothing is eased (R95). -/
theorem Slot.eased_false (sl : Slot) : sl.eased false = sl := by
  unfold Slot.eased
  cases sl.entry <;> rfl

/-- What easing leaves of a standing entry (R95, R23). -/
theorem Slot.eased_true (sl : Slot) (e : Entry) (h : sl.entry = some e) :
    sl.eased true = if e.latching then sl else
      match e.state with
      | .activeUnack => { sl with entry := some { e with state := .clearedUnack } }
      | .activeAck => ⟨sl.gen + 1, none⟩
      | .clearedUnack => sl := by
  unfold Slot.eased
  rw [h]
  dsimp only
  cases e.latching <;> cases e.state <;> simp

/-- A restore that retires without a check of its own eases the slot, and leaves every other (R23).
-/
theorem Work.slots_restoreWith (w : Work) (i j : Fin 128) (e : Entry) (h : w.entry i = some e) :
    (w.restoreWith Work.retireEntry i).1.slots[j]
      = if i = j then (w.slots[j]).eased true else w.slots[j] := by
  have stands : w.slots[i].entry = some e := h
  have he := Slot.eased_true _ e stands
  unfold Work.restoreWith
  rw [h]
  dsimp only
  split
  · next hl =>
    rw [if_pos hl] at he
    split
    · next hj => subst hj; exact he.symm
    · rfl
  · next hl =>
    rw [if_neg hl] at he
    split
    · next hs =>
      rw [hs] at he
      refine (slots_set_get _ _ _ _).trans ?_
      split
      · next hj => subst hj; exact he.symm
      · rfl
    · next hs =>
      rw [hs] at he
      rw [Work.slots_retireEntry w _ _ e h]
      split
      · next hj => subst hj; exact he.symm
      · rfl
    · next hs =>
      rw [hs] at he
      split
      · next hj => subst hj; exact he.symm
      · rfl

/-- The hysteresis check of a domain eases its reserved slot where the domain has room, and leaves
every other (R95). -/
theorem Work.slots_hysteresisOf (w : Work) (d : Domain) (j : Fin 128) :
    (w.hysteresisOf d).slots[j]
      = if tableFullIndex d = j then
          (w.slots[j]).eased (decide (Config.fullMargin ≤ usableFree w.slots w.reserve d))
        else w.slots[j] := by
  unfold Work.hysteresisOf
  cases h : w.entry (tableFullIndex d) with
  | none =>
    have none_stands : w.slots[tableFullIndex d].entry = none := h
    dsimp only
    split
    · next hj => subst hj; unfold Slot.eased; rw [none_stands]
    · rfl
  | some e =>
    have stands : w.slots[tableFullIndex d].entry = some e := h
    dsimp only
    by_cases hm : Config.fullMargin ≤ usableFree w.slots w.reserve d
    · rw [decide_eq_true hm, Bool.true_and]
      split
      · exact Work.slots_restoreWith w _ j e h
      · next ha =>
        split
        · next hj =>
          subst hj
          rw [Slot.eased_true _ e stands]
          split
          · rfl
          · split <;> next hs => first | rfl | exact absurd (by rw [hs]; rfl) ha
        · rfl
    · rw [if_neg (by simp [hm]), decide_eq_false hm, Slot.eased_false, ite_self]

theorem Work.hysteresis_eases (w : Work) : Work.Eases w w.hysteresis :=
  (hysteresisOf_eases w .unit).trans (hysteresisOf_eases _ .field)

theorem Work.retire_eases (w : Work) (i : Fin 128) : Work.Eases w (w.retire i) := by
  unfold Work.retire
  split
  · exact .refl
  · exact (retireEntry_eases w i).trans (hysteresis_eases _)

theorem Work.restore_eases (w : Work) (k : Key) : Work.Eases w (w.restore k).1 := by
  unfold Work.restore
  split
  · exact .refl
  · exact restoreWith_eases _ retire_eases w _

theorem Work.ackEntry_eases (w : Work) (i : Fin 128) (e : Entry) (h : w.entry i = some e) :
    Work.Eases w (w.ackEntry i e) := by
  unfold Work.ackEntry
  cases hs : e.state with
  | activeUnack =>
    exact update_eases w i e { e with state := .activeAck } w.locs w.events h rfl rfl rfl rfl rfl rfl
      (.inl rfl) id (moveCount_same _ _ _ (by rw [hs]; rfl))
  | activeAck => exact .refl
  | clearedUnack =>
    dsimp only
    split
    · exact .refl
    · exact retire_eases w i

/-! ## Raises -/

theorem Entry.withDetail_fields (e : Entry) (r : Raise) :
    (e.withDetail r).key = e.key ∧ (e.withDetail r).seq = e.seq
      ∧ (e.withDetail r).anchor = e.anchor ∧ (e.withDetail r).domain = e.domain
      ∧ (e.withDetail r).logged = e.logged ∧ (e.withDetail r).latching = e.latching
      ∧ (e.withDetail r).executed = e.executed ∧ (e.withDetail r).sweepMark = e.sweepMark
      ∧ (e.withDetail r).state = e.state := by
  unfold Entry.withDetail
  split <;> exact ⟨rfl, rfl, rfl, rfl, rfl, rfl, rfl, rfl, rfl⟩

theorem Work.repeatRaise_eases (w : Work) (r : Raise) (i : Fin 128) (e : Entry)
    (h : w.entry i = some e) : Work.Eases w (w.repeatRaise r i e) := by
  unfold Work.repeatRaise
  dsimp only
  obtain ⟨f1, f2, f3, f4, f5, f6, f7, f8, f9⟩ :=
    Entry.withDetail_fields (e.touch r w.now (burstUpdate (w.group e.key.group) w.now e)) r
  split
  · exact update_eases w i e _ w.locs _ h f1 f2 f3 f4 f5 f6 (.inr ⟨_, _, rfl⟩)
      (fun hm => by rw [f8] at hm; cases hm) (moveCount_same _ _ _ (by rw [f9]; rfl))
  · exact update_eases w i e _ w.locs w.events h f1 f2 f3 f4 f5 f6 (.inl f7)
      (fun hm => by rw [f8] at hm; cases hm) (moveCount_same _ _ _ (by rw [f9]; rfl))

theorem Work.reactivateRaise_eases (w : Work) (r : Raise) (i : Fin 128) (e : Entry)
    (h : w.entry i = some e) (hs : e.state.active = false) :
    Work.Eases w (w.reactivateRaise r i e) := by
  unfold Work.reactivateRaise
  dsimp only
  obtain ⟨f1, f2, f3, f4, f5, f6, f7, f8, f9⟩ :=
    Entry.withDetail_fields (e.touch r w.now (burstUpdate (w.group e.key.group) w.now e)) r
  exact update_eases w i e _ (countUp w.locs e.anchor) _ h f1 f2 f3 f4 f5 f6 (.inr ⟨_, _, rfl⟩)
    (fun hm => by rw [f8] at hm; cases hm) (by unfold moveCount; rw [hs]; rfl)

theorem Work.momentaryRaise_eases (w : Work) (r : Raise) (i : Fin 128) (e : Entry)
    (h : w.entry i = some e) : Work.Eases w (w.momentaryRaise r i e) :=
  update_eases w i e (e.touch r w.now (burstUpdate (w.group e.key.group) w.now e)) w.locs w.events h
    rfl rfl rfl rfl rfl rfl (.inl rfl) (fun hm => by cases hm) (moveCount_same _ _ _ rfl)

theorem Work.raiseStanding_eases (w : Work) (r : Raise) (i : Fin 128) (e : Entry)
    (h : w.entry i = some e) : Work.Eases w (w.raiseStanding r i e).1 := by
  unfold Work.raiseStanding
  split
  · exact repeatRaise_eases w r i e h
  · next hs =>
    split
    · exact momentaryRaise_eases w r i e h
    · exact reactivateRaise_eases w r i e h (by simpa using hs)

/-! ## Creations -/

/-- The reserved indices hold TABLE FULL entries only, and no general one does (R5). -/
def Work.Reserved (w : Work) : Prop :=
  (∀ (d : Domain) (e : Entry), w.entry (tableFullIndex d) = some e → e.key = tableFullKey d)
    ∧ ∀ (i : Fin 128) (e : Entry) (d : Domain), i.val < Config.generalSize →
        w.entry i = some e → e.key ≠ tableFullKey d

theorem tableFullKey_injective (d d' : Domain) (h : tableFullKey d = tableFullKey d') : d = d' := by
  cases d <;> cases d' <;> first | rfl | exact absurd h (by decide)

theorem tableFullIndex_injective (d d' : Domain) (h : tableFullIndex d = tableFullIndex d') :
    d = d' := by
  cases d <;> cases d' <;> first | rfl | exact absurd h (by decide)

theorem tableFullIndex_reserved (d : Domain) : ¬ (tableFullIndex d).val < Config.generalSize := by
  cases d <;> decide

/-- An entry standing after a primitive change stood before with the same key, or is the one
created. -/
theorem Work.Ease.entry_before {w w' : Work} (h : Work.Ease w w') (j : Fin 128) (f : Entry)
    (hf : w'.entry j = some f) : ∃ f0, w.entry j = some f0 ∧ f.key = f0.key := by
  cases h with
  | update i e e' events found key =>
    have he : (w.put i e').entry j = some f := hf
    rw [Work.entry_put] at he
    split at he
    · next hij =>
      subst hij
      injection he with he
      subst he
      exact ⟨e, found, key⟩
    · exact ⟨f, he, rfl⟩
  | retire i e found =>
    rw [Work.entry_retireEntry] at hf
    split at hf
    · cases hf
    · exact ⟨f, hf, rfl⟩

theorem Work.Ease.reserved {w w' : Work} (h : Work.Ease w w') (hw : w.Reserved) : w'.Reserved := by
  refine ⟨fun d f hf => ?_, fun j f d hj hf => ?_⟩
  · obtain ⟨f0, h0, hk⟩ := h.entry_before _ f hf
    rw [hk]
    exact hw.1 d f0 h0
  · obtain ⟨f0, h0, hk⟩ := h.entry_before _ f hf
    rw [hk]
    exact hw.2 j f0 d hj h0

theorem Work.reserved_of_eases {w w' : Work} (h : Work.Eases w w') (hw : w.Reserved) :
    w'.Reserved := by
  induction h with
  | refl => exact hw
  | tail _ h ih => exact h.reserved ih

theorem Work.Change.reserved {w w' : Work} (h : Work.Change w w') (hw : w.Reserved) :
    w'.Reserved := by
  cases h with
  | ease w' h => exact h.reserved hw
  | flags => exact hw
  | mark => exact hw
  | presence => exact hw
  | create i e events free fresh seq counter anchor domain executed mark place =>
    have hget : ∀ j, ({ w.put i e with
          seqNext := w.seqNext + 1, events := events,
          locs := if e.state.active then countUp w.locs e.anchor else w.locs } : Work).entry j
        = if i = j then some e else w.entry j := fun j => Work.entry_put w i j e
    refine ⟨fun d f hf => ?_, fun j f d hj hf => ?_⟩
    · rw [hget] at hf
      split at hf
      · next hij =>
        injection hf with hf
        subst hf
        rcases place with ⟨d', hi, hk⟩ | ⟨hi, _⟩
        · rw [hk, tableFullIndex_injective d' d (hi.symm.trans hij)]
        · exact absurd hi (by rw [hij]; exact tableFullIndex_reserved d)
      · exact hw.1 d f hf
    · rw [hget] at hf
      split at hf
      · next hij =>
        injection hf with hf
        subst hf
        rcases place with ⟨d', hi, _⟩ | ⟨_, hk⟩
        · exact absurd hj (by rw [← hij, hi]; exact tableFullIndex_reserved d')
        · exact hk d
      · exact hw.2 j f d hj hf

theorem Work.reserved_of_changes {w w' : Work} (h : Work.Changes w w') (hw : w.Reserved) :
    w'.Reserved := by
  induction h with
  | refl => exact hw
  | tail _ h ih => exact h.reserved ih

/-- A reserved index is FREE when no entry stands with its TABLE FULL key. -/
theorem Work.Reserved.free {w : Work} (hw : w.Reserved) (d : Domain)
    (h : findKey w.slots (tableFullKey d) = none) : w.entry (tableFullIndex d) = none := by
  cases he : w.entry (tableFullIndex d) with
  | none => rfl
  | some e => exact absurd (hw.1 d e he) ((findKey_none _ _).mp h _ e he)

/-- A creation in a FREE index is one primitive change. -/
theorem Work.create_changes (w : Work) (r : Raise) (i : Fin 128) (free : w.entry i = none)
    (fresh : findKey w.slots r.key = none) (counter : w.seqNext ≤ Config.lastSequence)
    (place : (∃ d, i = tableFullIndex d ∧ r.key = tableFullKey d)
      ∨ (i.val < Config.generalSize ∧ ∀ d, r.key ≠ tableFullKey d)) :
    Work.Changes w (w.create r i) := by
  refine .single ?_
  exact Work.Change.create w i (w.newEntry r)
    (w.events ++ [⟨.creation, (w.newEntry r).domain, (w.group r.key.group).summaryBit⟩]) free
    (fun j f hf => (findKey_none _ _).mp fresh j f hf) rfl counter rfl rfl ⟨_, _, rfl⟩ rfl place

theorem Work.refuseSpent_changes (w : Work) : Work.Changes w w.refuseSpent :=
  .single (.flags w true true)

theorem Work.raiseTableFull_changes (w : Work) (d : Domain) (hw : w.Reserved) :
    Work.Changes w (w.raiseTableFull d) := by
  unfold Work.raiseTableFull
  dsimp only
  split
  · split
    · next he => exact changes_of_eases (raiseStanding_eases w _ _ _ he)
    · exact .refl
  · next hk =>
    split
    · exact refuseSpent_changes w
    · next hc =>
      exact create_changes w _ _ (hw.free d hk) hk (by omega) (.inl ⟨d, rfl, rfl⟩)

theorem Work.refuseFull_changes (w : Work) (d : Domain) (a : Nat) (hw : w.Reserved) :
    Work.Changes w (w.refuseFull d a) := by
  unfold Work.refuseFull
  have h1 : Work.Changes w { w with locs := markAt w.locs d a true } := .single (.mark w d a true)
  have h2 := raiseTableFull_changes { w with locs := markAt w.locs d a true } d (reserved_of_changes h1 hw)
  refine h1.trans (h2.trans (.single ?_))
  exact .flags _ _ true

/-- No key joins the table through an ease. -/
theorem Work.fresh_of_eases {w w' : Work} (h : Work.Eases w w') (k : Key)
    (hk : findKey w.slots k = none) : findKey w'.slots k = none := by
  induction h with
  | refl => exact hk
  | tail _ h ih =>
    rw [findKey_none] at ih ⊢
    intro j f hf
    obtain ⟨f0, h0, he⟩ := h.entry_before j f hf
    rw [he]
    exact ih j f0 h0

/-- An ease leaves a FREE index FREE and moves no counter. -/
theorem Work.Ease.free {w w' : Work} (h : Work.Ease w w') (i : Fin 128) (hi : w.entry i = none) :
    w'.entry i = none := by
  cases hf : w'.entry i with
  | none => rfl
  | some f =>
    obtain ⟨f0, h0, _⟩ := h.entry_before i f hf
    rw [hi] at h0
    cases h0

theorem Work.free_of_eases {w w' : Work} (h : Work.Eases w w') (i : Fin 128)
    (hi : w.entry i = none) : w'.entry i = none := by
  induction h with
  | refl => exact hi
  | tail _ h ih => exact h.free i ih

theorem Work.Ease.seqNext {w w' : Work} (h : Work.Ease w w') : w'.seqNext = w.seqNext := by
  cases h with
  | update i e e' events => rfl
  | retire i e found =>
    unfold Work.retireEntry
    rw [found]

theorem Work.seqNext_of_eases {w w' : Work} (h : Work.Eases w w') : w'.seqNext = w.seqNext := by
  induction h with
  | refl => rfl
  | tail _ h ih => exact h.seqNext.trans ih

theorem Work.entry_retire (w : Work) (i : Fin 128) : (w.retire i).entry i = none := by
  unfold Work.retire
  split
  · next h => exact h
  · refine free_of_eases (hysteresis_eases _) i ?_
    rw [Work.entry_retireEntry, if_pos rfl]

theorem Work.displace_changes (w : Work) (r : Raise) (i : Fin 128)
    (fresh : findKey w.slots r.key = none) (counter : w.seqNext ≤ Config.lastSequence)
    (place : i.val < Config.generalSize ∧ ∀ d, r.key ≠ tableFullKey d) :
    Work.Changes w (w.displace r i) := by
  have h1 := retire_eases w i
  have h2 := create_changes (w.retire i) r i (entry_retire w i) (fresh_of_eases h1 _ fresh)
    (by rw [seqNext_of_eases h1]; exact counter) (.inr place)
  exact (changes_of_eases h1).trans (h2.trans (.single (.flags _ _ true)))

theorem Work.createInRoom_changes (w : Work) (r : Raise) (hw : w.Reserved)
    (fresh : findKey w.slots r.key = none) (counter : w.seqNext ≤ Config.lastSequence) :
    Work.Changes w (w.createInRoom r).1 := by
  unfold Work.createInRoom
  dsimp only
  split
  · next h => exact create_changes w r _ (hw.free _ (h ▸ fresh)) fresh counter (.inl ⟨_, rfl, h⟩)
  · next h1 =>
    split
    · next h => exact create_changes w r _ (hw.free _ (h ▸ fresh)) fresh counter (.inl ⟨_, rfl, h⟩)
    · next h2 =>
      have hk : ∀ d, r.key ≠ tableFullKey d := fun d => by cases d <;> assumption
      split
      · next i hi =>
        split at hi
        · have := lowestFree_some _ _ hi
          exact create_changes w r i this.2 fresh counter (.inr ⟨this.1, hk⟩)
        · cases hi
      · split
        · next i n ho =>
          obtain ⟨_, e, he, hp, _⟩ := oldest_some _ _ _ _ _ ho
          refine displace_changes w r i fresh counter ⟨?_, hk⟩
          simp only [displaceable, Bool.and_eq_true, decide_eq_true_eq] at hp
          exact hp.1.1.1.1
        · exact refuseFull_changes w _ _ hw

/-- Everything a raise can do (R17 from step 5). -/
theorem Work.raise_changes (w : Work) (r : Raise) (hw : w.Reserved) :
    Work.Changes w (w.raise r).1 := by
  unfold Work.raise
  split
  · split
    · next he => exact changes_of_eases (raiseStanding_eases w r _ _ he)
    · exact .refl
  · next hk =>
    split
    · exact refuseSpent_changes w
    · next hc => exact createInRoom_changes w r hw hk (by omega)

theorem Work.raisePart_changes (w : Work) (p : LocPath) (group code : Byte) (detail : List Byte)
    (hw : w.Reserved) : Work.Changes w (w.raisePart p group code detail).1 :=
  raise_changes w _ hw

/-! ## The requests of the link and of the verify timer -/

theorem Work.arriveMap_changes (w : Work) (i : Nat) (p : Presence) :
    Work.Changes w { w with locs := markAt (setPresence w.locs i p) .field i false } :=
  (Relation.ReflTransGen.single (Work.Change.presence w i p)).trans
    (.single (.mark { w with locs := setPresence w.locs i p } .field i false))

theorem Work.restorePart_changes (w : Work) (p : LocPath) (group code : Byte) :
    Work.Changes w (w.restorePart p group code) := changes_of_eases (restore_eases w _)

theorem Work.arriveKind_changes (w : Work) (l : Location) (installed : Byte) (hw : w.Reserved) :
    Work.Changes w (w.arriveKind l installed) := by
  unfold Work.arriveKind
  split
  · exact restorePart_changes _ _ _ _
  · exact raisePart_changes _ _ _ _ _ hw

theorem Work.arriveReturn_changes (w : Work) (l : Location) (silent : Bool) (hw : w.Reserved) :
    Work.Changes w (w.arriveReturn l silent) := by
  unfold Work.arriveReturn
  split
  · exact raisePart_changes _ _ _ _ _ hw
  · exact .refl

theorem Work.arrive_changes (w : Work) (i : Nat) (l : Location) (installed : Byte)
    (hw : w.Reserved) : Work.Changes w (w.arrive i l installed) := by
  unfold Work.arrive
  dsimp only
  have h1 := ((arriveMap_changes w i
    (if kindMatches l installed then .present else .foreign)).trans
      (restorePart_changes _ l.path 1 1)).trans
      ((restorePart_changes _ l.path 1 2).trans (restorePart_changes _ l.path 2 0))
  have h12 := h1.trans (arriveKind_changes _ l installed (reserved_of_changes h1 hw))
  exact h12.trans (arriveReturn_changes _ l _ (reserved_of_changes h12 hw))

theorem Work.depart_changes (w : Work) (i : Nat) (p : LocPath) (code : Byte) (hw : w.Reserved) :
    Work.Changes w (w.depart i p code) := by
  unfold Work.depart
  dsimp only
  have h := (Relation.ReflTransGen.single (Work.Change.presence w i .absent)).trans
    (restorePart_changes _ p 4 0)
  split
  · exact h
  · exact h.trans (raisePart_changes _ _ _ _ _ (reserved_of_changes h hw))

theorem Work.raiseSilent_changes (w : Work) (paths : List LocPath) (hw : w.Reserved) :
    Work.Changes w (w.raiseSilent paths) := by
  unfold Work.raiseSilent
  induction paths generalizing w with
  | nil => exact .refl
  | cons p rest ih =>
    have h := raisePart_changes w p 2 0 [] hw
    exact h.trans (ih _ (reserved_of_changes h hw))

theorem Work.partWork_changes (w : Work) (i : Nat) (home : LocPath) (linkCode : Option Byte)
    (lapse : Bool) (hw : w.Reserved) :
    Work.Changes w ((w.partLink home linkCode).partLapse i home lapse) := by
  have h1 : Work.Changes w (w.partLink home linkCode) := by
    unfold Work.partLink
    split
    · exact raisePart_changes _ _ _ _ _ hw
    · exact .refl
  refine h1.trans ?_
  unfold Work.partLapse
  split
  · exact depart_changes _ _ _ _ (reserved_of_changes h1 hw)
  · exact .refl

/-! ## The window's requests -/

/-- A visit of a list of indices whose every visit is an ease is an ease. -/
theorem Work.foldl_eases (visit : Work → Fin 128 → Work) (h : ∀ w i, Work.Eases w (visit w i))
    (l : List (Fin 128)) (w : Work) : Work.Eases w (l.foldl visit w) := by
  induction l generalizing w with
  | nil => exact .refl
  | cons i rest ih => exact (h w i).trans (ih _)

theorem Work.retireField_eases (w : Work) : Work.Eases w w.retireField := by
  refine foldl_eases _ (fun w i => ?_) _ w
  split
  · split
    · exact retire_eases w i
    · exact .refl
  · exact .refl

theorem Work.retireUnlatched_eases (w : Work) : Work.Eases w w.retireUnlatched := by
  refine foldl_eases _ (fun w i => ?_) _ w
  split
  · split
    · exact .refl
    · exact retire_eases w i
  · exact .refl

theorem Work.sweepVisits_eases (w : Work) (l : List (Fin 128)) :
    Work.Eases w (l.foldl Work.sweepVisit w) := by
  refine foldl_eases _ (fun w i => ?_) _ w
  unfold Work.sweepVisit
  split
  · split
    · exact retire_eases w i
    · exact .refl
  · exact .refl

theorem ackAll_eases (mask : Byte) (w : Work) : Work.Eases w (ackAll mask w).work := by
  unfold ackAll
  suffices h : ∀ (l : List (Fin 128)) (a : AckAll),
      Work.Eases a.work (l.foldl (AckAll.visit mask) a).work from h indices ⟨w, 0, 0⟩
  intro l
  induction l with
  | nil => intro a; exact .refl
  | cons i rest ih =>
    intro a
    refine Relation.ReflTransGen.trans ?_ (ih _)
    unfold AckAll.visit
    split
    · exact .refl
    · next e he =>
      split
      · exact Work.ackEntry_eases _ _ _ he
      · exact .refl

end Sys2Proof.Machine
end

