-- ==== Sys2Proof/Tests/Slice0.lean ====
section
/-!
SUPPORT. Tests: terms that name no step, sanity checks on small states, and for every statement with
hypotheses a concrete state and operands that meet them (test_hyps_…), clause by clause.
-/

namespace Sys2Proof.Tests

set_option Elab.async false

open Sys2Proof Sys2Proof.Machine

/-! ## Terms that name no step of their row -/

theorem test_argWrite_of_cmd_refused :
    Instr.wellFormed (.argWrite 0x00 ⟨0x10, .only⟩) = false := by decide
theorem test_argWrite_of_cause_refused :
    Instr.wellFormed (.argWrite 0x03 ⟨0xFF, .first⟩) = false := by decide
theorem test_argWrite_of_enable_refused :
    Instr.wellFormed (.argWrite 0x04 ⟨0xFF, .last⟩) = false := by decide
theorem test_badCommand_of_a_command_refused : Instr.wellFormed (.badCommand 0x60) = false := by
  decide
theorem test_reply_of_24_bytes_refused :
    Instr.wellFormed (.replyJudge true (List.replicate 24 0xB4)) = false := by decide
theorem test_argWrite_formed :
    Instr.wellFormed (.argWrite 0x10 ⟨0x01, .next⟩) = true := by decide
theorem test_badCommand_formed : Instr.wellFormed (.badCommand 0x61) = true := by decide
theorem test_reply_of_23_bytes_formed :
    Instr.wellFormed (.replyJudge true (List.replicate 23 0xB4)) = true := by decide

/-- The table gives no row any bits, so no word spells a command. -/
theorem test_no_word_spells_a_command :
    decodeTableWord 0 0 = none ∧ decodeTableWord 8 0x10 = none
      ∧ State.reset.withFetchWord 8 0x10 = State.reset := by decide +kernel

/-! ## Helpers -/

/-- The state after one step. -/
def after (i : Instr) (s : State) : State :=
  match exec i s with
  | .next t => t
  | .fault _ => s
  | .refused _ => s

/-- Bytes as the ARG area. -/
def argsOf (bs : List Byte) : Vector Byte 32 := ⟨⟨(bs ++ List.replicate 32 0).take 32⟩, by simp⟩

/-- The state with ARG bytes written. -/
def given (bs : List Byte) (s : State) : State := { s with window.arg := argsOf bs }

/-- The path of a station. -/
def stationPath (s : Byte) : LocPath := ⟨s, 0x00, 0xFF, 0xFF⟩

/-- An entry of a key, in a domain and a state, latching or not, with a sequence. -/
def anEntry (k : Key) (d : Domain) (st : EntryState) (latching : Bool) (seq : Nat) : Entry :=
  { seq, key := k, anchor := 0, domain := d, state := st, logged := .diagnostic,
    executed := .diagnostic, escalated := false, latching, origin := .controller, occ := 1,
    first := 0, last := 0, burstStart := 0, burstCount := 1, detail := [], sweepMark := false }

/-- The state with an entry at an index, and the counter above its sequence. -/
def holding (i : Fin 128) (e : Entry) (s : State) : State :=
  { s with
    engine.slots := s.engine.slots.set i ⟨0, some e⟩
    engine.seqNext := e.seq + 1 }

/-- Every index of the table holds the same entry: a state no run reaches. -/
def fullOf (e : Entry) (s : State) : State :=
  { s with engine.slots := Vector.replicate 128 ⟨0, some e⟩ }

/-- A statement about every standing entry follows from a check of every index. -/
theorem entries_of_check (slots : Vector Slot 128) (p : Fin 128 → Entry → Prop)
    [∀ i e, Decidable (p i e)]
    (h : (indices.all fun j => match slots[j].entry with
      | some f => decide (p j f)
      | none => true) = true) :
    ∀ (j : Fin 128) (f : Entry), slots[j].entry = some f → p j f := by
  intro j f hf
  have := List.all_eq_true.mp h j (List.mem_finRange j)
  rw [hf] at this
  simpa using this

/-- Station 0, kind 1, with agent 1 at home there. -/
def stationRecord (p : Presence) : Location :=
  { path := stationPath 0, level := .station, parent := 0, kind := 1, agent := 1, limit := 3,
    presence := p, own := 0, below := 0, uMark := false, fMark := false }

/-- The roster record of agent 1. -/
def agentOne (st : AgentState) (misses : Nat) (waiting : Bool) : Agent :=
  { address := 1, home := 1, state := st, misses, limit := 3, lastSeq := 5,
    stored := (5, .accepted), waiting }

/-- A LOADED map of the root and station 0, with agent 1 in the roster. -/
def loaded (p : Presence) : State :=
  { State.reset with
    topo.state := .loaded
    topo.locs := [Location.root, stationRecord p]
    link.roster := [agentOne .online 0 false] }

/-- The key of a condition of open group 9 at station 0. -/
def keyNine : Key := ⟨stationPath 0, 9, 7⟩

/-- The arguments that name keyNine. -/
def nineBytes : List Byte := [0x00, 0x00, 0xFF, 0xFF, 9, 7]

/-- Group 9 enabled, of domain FIELD, momentary or not. -/
def withNine (momentary : Bool) (s : State) : State :=
  { s with
    groups := s.groups.set 8
      { GroupRecord.openDefault with enabled := true, momentary := momentary } }

/-- A live exchange with agent 1. -/
def exchanging (s : State) : State := { s with link.exchange := some ⟨1, [], .live, false⟩ }

/-- A reply frame of agent 1: type and body, with its CRC. -/
def frameOf (type : Byte) (body : List Byte) : List Byte :=
  (0xB4 : Byte) :: ([0x81, type] ++ body) ++ crcBytes ([0x81, type] ++ body)

/-- A REPORT of agent 1 at station 0. -/
def reportOf (seq kind group code : Byte) : Report :=
  ⟨1, seq, kind, stationPath 0, group, code, []⟩

/-- The frame of reportOf. -/
def reportFrame (seq kind group code : Byte) : List Byte :=
  frameOf 0x02 ([seq, kind] ++ (stationPath 0).bytes ++ [group, code, 0])

/-- A report entry at the head of the queue, its agent pending. -/
def queued (r : Report) (s : State) : State :=
  { s with link := { s.link with queue := [.report r], roster := [agentOne .online 0 true] } }

/-- A part entry at the head of the queue, its agent pending. -/
def partQueued (linkCode : Option Byte) (lapse : Bool) (s : State) : State :=
  { s with link := { s.link with
      queue := [.part 1 linkCode lapse], roster := [agentOne .lapsed 3 true] } }

/-! ## Sanity -/

/-- The check value of the CRC of R107 over the nine digits. -/
theorem test_crc_check_value :
    crc [0x31, 0x32, 0x33, 0x34, 0x35, 0x36, 0x37, 0x38, 0x39] = 0xAEE7 := by decide +kernel

theorem test_step_takes_front :
    step (State.reset.withPending [.stampTick, .poll])
      = .next { State.reset with clock := 1, pending := [.poll] } := by rfl

theorem test_setStamp_loads :
    (after .setStamp (given [0x00, 0x07, 0xA1, 0x20] State.reset)).clock = 500000 := by
  decide +kernel

theorem test_topoPut_appends :
    (after .topoPut (given [0, 0, 0xFF, 0xFF, 1, 10, 1, 0] State.reset)).topo.staged
      = [Staged.root,
        { path := stationPath 0, level := .station, parent := 0, kind := 10, agent := 1,
          limit := 3 }] := by decide +kernel

theorem test_raiseApp_creates :
    (after (.raiseApp .free) (given nineBytes (withNine false (loaded .present)))).engine.slots[0]
      = ⟨0, some { anEntry keyNine .field .activeUnack false 1 with anchor := 1 }⟩ := by
  decide +kernel

theorem test_raiseApp_while_engaged_waits :
    (after (.raiseApp .engaged) (given nineBytes (withNine false (loaded .present)))).cstat
      = 1 := by decide +kernel

theorem test_windowRequestGrant_grants :
    after .windowRequestGrant
        (after (.raiseApp .engaged) (given nineBytes (withNine false (loaded .present))))
      = after (.raiseApp .free) (given nineBytes (withNine false (loaded .present))) := by
  decide +kernel

theorem test_overrun_sets_its_flag :
    (after .overrun { State.reset with window.cmdState := .busy }).cstat = 0x81 := by
  decide +kernel

theorem test_grant_raises_release :
    (after .grant { loaded .present with release.mode := .run }).releasePin = true := by
  decide +kernel

theorem test_arrival_of_the_right_kind_is_present :
    ((after .reportArrive (queued (reportOf 6 3 0 1) (loaded .unverified))).topo.locs.map
      (·.presence)) = [.present, .present] := by decide +kernel

theorem test_departure_raises_loss :
    findKey (after .reportDepart (queued (reportOf 6 4 0 0) (loaded .present))).engine.slots
      ⟨stationPath 0, 1, 1⟩ = some 0 := by decide +kernel

theorem test_third_miss_lapses :
    (after .replyWindowClose
      (exchanging { loaded .present with link.roster := [agentOne .online 2 false] })).link.queue
      = [.part 1 none true] := by decide +kernel

theorem test_write_burst_gives_the_command_last :
    writeBurst .free 0x00 [0x40, 0, 0, 0xFF, 0x01]
      = [.argWrite 0x01 ⟨0, .first⟩, .argWrite 0x02 ⟨0, .next⟩, .attnCauseWrite ⟨0xFF, .next⟩,
         .attnEnableWrite ⟨0x01, .next⟩, .lookup .free] := by decide

/-- A read burst from 0x0B: the free count, then the clock's high byte, which the read latches. -/
theorem test_read_burst_drives_sdo :
    spiBytes [0x8B, 0, 0] (spiFall { State.reset with clock := 0x01020304 })
      = ([.drives 0, .drives 126, .drives 1],
         { State.reset with
           clock := 0x01020304, port := .reading 0x0D, window.stampLatch := 0x01020304,
           window.heldCounts := some ⟨0, 0, 0, 126⟩ }) := by decide +kernel

/-- A header bit by bit, the most significant first: a read from 0x0B; three bits of the byte after
it do nothing, and SDO shows the first bits of the count. -/
theorem test_bits_travel_most_significant_first :
    spiBits [true, false, false, false, true, false, true, true, false, false, false]
        (spiFall State.reset)
      = (List.replicate 8 (.level false) ++ [.level false, .level true, .level true],
         { State.reset with port := .reading 0x0B }) := by decide +kernel

/-- RESETN falls without CLK in a transaction: it is cut off, and its rise of CSN drops the
snapshots that it held. -/
theorem test_resetn_without_clk_cuts :
    spiRise .free (spiBytes [0x53] (after (.coldReset .resetn) { (spiBytes [0x8B, 0]
        (spiFall State.reset)).2 with clkPresent := false })).2
      = .next { State.reset with clkPresent := false, resetnLow := true } := by rfl

/-- A write that a cold reset cuts off gives no command after RESET_RELEASE. -/
theorem test_cut_transaction_gives_nothing :
    spiRise .free (spiBytes [0x53] (after .resetRelease (after (.coldReset .resetn)
      (spiBytes [0x00, 0x10] (spiFall State.reset)).2))).2 = .next State.reset := by rfl

theorem test_warm_restart_ends_done :
    (after (.warmRestartComplete .finish) (after (.warmRestart .free) (loaded .present))).cstat
      = 2 := by decide +kernel

/-! ## Hypotheses met: queue, inputs, window -/

theorem test_hyps_StepTakesFront :
    (State.reset.withPending [.poll, .stampTick]).pending = .poll :: [.stampTick]
      ∧ State.reset.pending = [] := by decide

theorem test_hyps_EveryStepGoesOn :
    State.reset.topo.state ≠ .committing ∧ State.reset.nextGrant = none
      ∧ (∀ (r : Report) (rest : List LinkEntry), (queued (reportOf 6 2 9 7)
          (loaded .present)).link.queue = .report r :: rest → r.kind ≠ 1)
      ∧ State.reset.window.cmd ≠ 0x52 ∧ State.reset.engine.sweep = none
      ∧ State.reset.window.restart = none
      ∧ State.reset.link.line ≠ .sending ∧ State.reset.topo.state ≠ .loaded
      ∧ State.reset.expiryDue = false ∧ State.reset.link.exchange = none
      ∧ State.reset.window.cmdState ≠ .busy ∧ State.reset.link.roster = []
      ∧ ({ State.reset with link.line := .sending } : State).link.line = .sending
      ∧ (exchanging { loaded .present with link.phase := .dueAfter }).link.exchange ≠ none
      ∧ (∃ sw : Sweep, sw.gapTaken = false
          ∧ ({ queued (reportOf 6 2 9 7) State.reset with engine.sweep := some sw } :
              State).engine.sweep = some sw
          ∧ (queued (reportOf 6 2 9 7) State.reset).link.queue ≠ []) := by
  refine ⟨by decide, by decide, ?_, by decide, by decide, by decide, by decide, by decide,
    by decide, by decide, by decide, by decide, by decide, by decide,
    ⟨.field, 1, 0, 0, 0, false⟩, by decide, rfl, by decide⟩
  intro r rest h
  cases h
  decide

theorem test_hyps_InputsOfThePart :
    State.reset.clkPresent = true
      ∧ ({ State.reset with clkPresent := false, port := .writing 0x10 none } : State).clkPresent
          = false
      ∧ State.reset.resetnLow = false
      ∧ ({ State.reset with resetnLow := true } : State).resetnLow = true := by decide

theorem test_hyps_HeldSteps :
    ({ State.reset with inReset := true } : State).inReset = true
      ∧ ({ State.reset with resetnLow := true } : State).resetnLow = true
      ∧ isInput .poll = false ∧ isCommand .poll = false ∧ isCommand (.get .free) = true
      ∧ ({ State.reset with inReset := true, window.cmdState := .busy } : State).window.cmdState
          = .busy
      ∧ (⟨0, .only⟩ : DataByte).csn = .only ∧ (⟨0, .first⟩ : DataByte).csn = .first
      ∧ (⟨0, .next⟩ : DataByte).csn = .next
      ∧ ({ State.reset with clkPresent := false } : State).clkPresent = false
      ∧ .poll ∈ ([.poll, .roundStart, .stampTick, .verifyExpiry, .replyWindowClose] :
          List Instr) := by decide

theorem test_hyps_BusyRefusesCommands :
    ({ State.reset with window.cmdState := .busy } : State).clocked = true
      ∧ ({ State.reset with window.cmdState := .busy } : State).port ≠ .cut
      ∧ ({ State.reset with window.cmdState := .busy } : State).window.cmdState = .busy
      ∧ isCommand (.badCommand 0x00) = true ∧ isCommand .setMode = true := by decide

/-- A transaction that runs, and one that cold reset has cut off. -/
theorem test_hyps_WindowBytes :
    State.reset.live = true
      ∧ (∃ a code, ({ State.reset with port := .writing 0x10 none } : State).port
          = .writing a code)
      ∧ ({ State.reset with port := .cut } : State).port = .cut ∧ State.reset.port ≠ .cut
      ∧ Instr.argWriteOk 0x0F = true ∧ (0x0F : BitVec 7).toNat < 0x10
      ∧ Instr.argWriteOk 0x30 = true ∧ 0x2F < (0x30 : BitVec 7).toNat := by
  refine ⟨by decide, ⟨0x10, none, rfl⟩, rfl, by decide, by decide, by decide, by decide, by decide⟩

/-- The port in each of its states, in cold reset and out of it. -/
theorem test_hyps_SpiTransactions :
    State.reset.live = true ∧ State.reset.port = .released
      ∧ ({ State.reset with port := .header } : State).live = true
      ∧ ({ State.reset with port := .reading 0x0C } : State).live = true
      ∧ ({ State.reset with port := .writing 0x03 (some 0x40) } : State).live = true
      ∧ ({ State.reset with port := .writing 0x00 none } : State).live = true
      ∧ ({ State.reset with port := .cut } : State).clocked = true
      ∧ ([true, false] : List Bool).length < 8
      ∧ (∀ a code, ({ State.reset with port := .reading 0x0C } : State).port
          ≠ .writing a (some code))
      ∧ Instr.argWriteOk 0x7F = true ∧ isCommand .setMode = true
      ∧ ({ State.reset with inReset := true } : State).inReset = true
      ∧ ({ State.reset with resetnLow := true } : State).resetnLow = true := by
  refine ⟨by decide, by decide, by decide, by decide, by decide, by decide, by decide, by decide,
    ?_, by decide, by decide, by decide, by decide⟩
  intro a code h
  cases h

theorem test_hyps_PinsAndRegistersShow :
    State.reset.inReset = false ∧ State.reset.resetnLow = false
      ∧ ({ State.reset with resetnLow := true } : State).resetnLow = true := by decide

/-- The reset state takes commands and grants them at the taking. -/
theorem test_hyps_takes_and_grants : State.reset.takes ∧ State.reset.grantsWindow := by
  unfold State.takes State.grantsWindow
  decide

theorem test_hyps_CodesGiveCommands :
    State.reset.takes ∧ Instr.badCommandOk 0x46 = true ∧ Instr.badCommandOk 0x45 = false := by
  unfold State.takes
  decide

theorem test_hyps_WindowRequestsWaitAndAreGranted :
    ((.get, 0x41) : (EngineAt → Instr) × Byte) ∈ requestCommands
      ∧ ({ State.reset with topo.verify.waiting := true } : State).takes
      ∧ ¬ ({ State.reset with topo.verify.waiting := true, engine.lastGranted := .window } :
          State).grantsWindow := by
  refine ⟨?_, ?_, ?_⟩
  · simp [requestCommands]
  · unfold State.takes
    decide
  · unfold State.grantsWindow
    decide

/-- A LOOKUP that waits; ARG has been rewritten since, OVERRUN set, and a transaction runs. -/
def lookupWaits : State :=
  given [9, 9, 9, 9]
    { after (.lookup .engaged) (given [0, 0, 0xFF, 0xFF] (loaded .present)) with
      port := .writing 0x14 none
      window.overrun := true
      window.arg := argsOf [9, 9, 9, 9] }

theorem test_hyps_WindowRequestsWaitAndAreGranted_later :
    lookupWaits.live = true ∧ lookupWaits.window.waiting = true ∧ lookupWaits.window.cmd = 0x40
      ∧ lookupWaits.nextGrant = some .window
      ∧ lookupWaits.window.arg ≠ lookupWaits.window.argCopy
      ∧ (after .windowRequestGrant lookupWaits).window.resp
          = (after (.lookup .free) (given [0, 0, 0xFF, 0xFF] (loaded .present))).window.resp
      ∧ (after .windowRequestGrant lookupWaits).cstat = 0x82 := by decide +kernel

theorem test_hyps_GrantsRotate :
    State.reset.engineOpen = true ∧ State.reset.engine.lastGranted = .verify
      ∧ ({ State.reset with engine.lastGranted := .link } : State).engineOpen = true
      ∧ ({ State.reset with engine.lastGranted := .window } : State).engineOpen = true := by
  decide

/-! ## Hypotheses met: topology, configuration, release -/

/-- The staging area of TOPO-PUT's cases: n copies of station 0 behind the root, carrying agents as
told. -/
def stagedWith (l : List Staged) (bs : List Byte) : State :=
  given bs { State.reset with topo.staged := Staged.root :: l }

/-- Station 0 staged, with an agent. -/
def stagedStation (agent : Byte) : Staged :=
  { path := stationPath 0, level := .station, parent := 0, kind := 0, agent := agent, limit := 3 }

/-- The forms of R47 at their boundaries, and a station number that is none of them. -/
theorem test_hyps_StagingCommandsAnswer_forms :
    (stagedWith [] [11, 0, 0xFF, 0xFF, 1, 0, 62, 15]).arguments.argPath 0 = ⟨11, 0, 0xFF, 0xFF⟩
      ∧ (stagedWith [] [11, 0, 0xFF, 0xFF, 1, 0, 62, 15]).arguments.argAt 4 = 1
      ∧ (stagedWith [] [11, 0, 0xFF, 0xFF, 1, 0, 62, 15]).arguments.argAt 6 = 62
      ∧ (stagedWith [] [11, 0, 0xFF, 0xFF, 1, 0, 62, 15]).arguments.argAt 7 = 15
      ∧ (stagedWith [] [11, 15, 127, 0xFF, 3]).arguments.argPath 0 = ⟨11, 15, 127, 0xFF⟩
      ∧ (stagedWith [] [11, 15, 127, 0xFF, 3]).arguments.argAt 4 = 3
      ∧ (stagedWith [] [12, 0, 0xFF, 0xFF, 1]).arguments.argPath 0 = ⟨12, 0, 0xFF, 0xFF⟩ := by
  decide +kernel

theorem test_hyps_StagingCommandsAnswer_paths :
    putFormOk (stagedWith [] [12, 0, 0xFF, 0xFF, 1]).arguments = false
      ∧ putFormOk (stagedWith [stagedStation 0] [0, 0, 0xFF, 0xFF, 1]).arguments = true
      ∧ stagedIndex [Staged.root, stagedStation 0]
          ((stagedWith [stagedStation 0] [0, 0, 0xFF, 0xFF, 1]).arguments.argPath 0) = some 1
      ∧ putFormOk (stagedWith [] [0, 1, 0xFF, 0xFF, 2]).arguments = true
      ∧ stagedIndex [Staged.root] ((stagedWith [] [0, 1, 0xFF, 0xFF, 2]).arguments.argPath 0) = none
      ∧ stagedIndex [Staged.root]
          ((stagedWith [] [0, 1, 0xFF, 0xFF, 2]).arguments.argPath 0).parent = none := by
  decide +kernel

theorem test_hyps_StagingCommandsAnswer_capacity :
    putFormOk (stagedWith (List.replicate 319 (stagedStation 0)) [11, 0, 0xFF, 0xFF, 1]).arguments
        = true
      ∧ stagedIndex (stagedWith (List.replicate 319 (stagedStation 0)) []).topo.staged
          (stationPath 11) = none
      ∧ stagedIndex (stagedWith (List.replicate 319 (stagedStation 0)) []).topo.staged
          (stationPath 11).parent = some 0
      ∧ (stagedWith (List.replicate 319 (stagedStation 0)) []).topo.staged.length = 320 := by
  decide +kernel

theorem test_hyps_StagingCommandsAnswer_agents :
    (stagedWith [stagedStation 62] [11, 0, 0xFF, 0xFF, 1, 0, 62, 15]).arguments.argAt 6 = 62
      ∧ [Staged.root, stagedStation 62].findIdx? (·.agent == 62) = some 1
      ∧ stagedAgents (Staged.root :: List.replicate 24 (stagedStation 1)) = 24
      ∧ (Staged.root :: List.replicate 24 (stagedStation 1)).findIdx? (·.agent == 62) = none
      ∧ (stagedWith [] [0xFF, 0, 0xFF, 0xFF, 0, 0, 0, 0]).arguments.argAt 6 = 0 := by
  decide +kernel

/-- A node, which carries no agent, below a staged bay. -/
def stagedBay : Staged :=
  { path := ⟨0, 1, 0xFF, 0xFF⟩, level := .bay, parent := 1, kind := 0, agent := 0, limit := 3 }

theorem test_hyps_StagingCommandsAnswer_level :
    putFormOk (stagedWith [stagedStation 0, stagedBay] [0, 1, 0, 0xFF, 3, 0, 1, 0]).arguments = true
      ∧ stagedIndex [Staged.root, stagedStation 0, stagedBay] ⟨0, 1, 0, 0xFF⟩ = none
      ∧ stagedIndex [Staged.root, stagedStation 0, stagedBay] (⟨0, 1, 0, 0xFF⟩ : LocPath).parent
          = some 2
      ∧ (⟨0, 1, 0, 0xFF⟩ : LocPath).level = .node
      ∧ stagedAgents [Staged.root, stagedStation 0, stagedBay] < 24 := by decide +kernel

theorem test_hyps_StagingCommandsAnswer_accepted :
    putFormOk (stagedWith [] [11, 0, 0xFF, 0xFF, 1, 0, 62, 15]).arguments = true
      ∧ stagedIndex [Staged.root] (stationPath 11) = none
      ∧ stagedIndex [Staged.root] (stationPath 11).parent = some 0
      ∧ (stationPath 11).level = .station ∧ [Staged.root].length < 320
      ∧ [Staged.root].findIdx? (·.agent == 62) = none := by decide +kernel

/-- A latching FIELD entry stands; a UNIT entry alone stands. -/
theorem test_hyps_TopoCommitAtItsGrant :
    (holding 0 (anEntry keyNine .field .activeUnack true 1) State.reset).engine.slots[(0 : Fin 128)]
        = ⟨0, some (anEntry keyNine .field .activeUnack true 1)⟩
      ∧ (∀ (i : Fin 128) (e : Entry),
          (holding 0 (anEntry keyNine .unit .activeUnack true 1)
            State.reset).engine.slots[i].entry = some e → e.domain = .field → e.latching = false)
      ∧ State.reset.release.mode = .hold
      ∧ ({ loaded .present with release.mode := .run } : State).takes
      ∧ ({ loaded .present with release.mode := .run } : State).grantsWindow := by
  refine ⟨by decide +kernel, entries_of_check _ (fun _ e => e.domain = .field → e.latching = false)
    (by decide +kernel), by decide, ?_, ?_⟩
  · unfold State.takes
    decide
  · unfold State.grantsWindow
    decide

/-- TABLE FULL of UNIT stands beside a FIELD entry in a table with room: the commit's retirement
clears it, and its count is the one FIELD entry. -/
theorem test_commit_eases_table_full :
    ∀ s t : State, s = holding 0 (anEntry keyNine .field .activeUnack false 2)
        (holding 126 (anEntry (tableFullKey .unit) .unit .activeUnack false 1) State.reset) →
      t = after (.topoCommit .free) s →
      t.topo.commitRetired = 1 ∧ standing s.engine.slots .field = 1
        ∧ 4 ≤ usableFree t.engine.slots s.limits.reserve .unit
        ∧ t.engine.slots[tableFullIndex .unit] = s.engine.slots[tableFullIndex .unit].eased true
        ∧ s.engine.slots[tableFullIndex .unit].eased true
            = ⟨0, some (anEntry (tableFullKey .unit) .unit .clearedUnack false 1)⟩ := by
  rintro s t rfl rfl
  decide +kernel

theorem test_hyps_CommitEndsLoaded :
    ({ loaded .present with topo.state := .committing } : State).live = true
      ∧ (heldAddresses ((loaded .present).topo.locs.map (·.agent))).Nodup
      ∧ rosterFrom 0 (loaded .present).topo.locs ≠ [] := by decide +kernel

/-- The fields at the ends of their ranges, and a field out of range. -/
theorem test_hyps_GroupSetAnswers_ranges :
    ∀ a : Nat → Byte,
      a = (given [31, 1, 1, 2, 1, 2, 1, 1, 15, 2, 0xEA, 0x60, 1] State.reset).arguments.argAt →
      (a 1).toNat ≤ 1 ∧ (a 2).toNat ≤ 1 ∧ (a 3).toNat ≤ 2 ∧ (a 4).toNat ≤ 1 ∧ a 5 = 2
        ∧ (a 6).toNat ≤ 1 ∧ (a 7).toNat ≤ 1 ∧ (a 8).toNat ≤ 15 ∧ a 9 ≠ 1
        ∧ (a 10).toNat * 256 + (a 11).toNat = 60000 ∧ (a 12).toNat ≤ 1
        ∧ ¬ ((given [31, 2] State.reset).arguments.argAt 1).toNat ≤ 1 := by
  rintro a rfl
  decide +kernel

/-- A record of group 1 that differs from its fixed domain, and one that differs in no fixed field.
-/
theorem test_hyps_GroupSetAnswers_fixed :
    ((given [1, 1, 0, 1, 1, 1, 0, 0, 0, 0, 0x03, 0xE8, 0] State.reset).arguments.argAt 2 = 0
        ∧ (groupOf State.reset.groups 1).domain = .field)
      ∧ (∃ new, (given [1, 1, 1, 1, 1, 2, 0, 0, 15, 0, 0x03, 0xE8, 0]
            State.reset).arguments.groupArgument = some new
          ∧ fixedFieldsAgree 1 (groupOf State.reset.groups 1) new = true)
      ∧ (8 : Nat) < (31 : Byte).toNat := by
  refine ⟨by decide +kernel,
    ⟨{ GroupRecord.openDefault with enabled := true, configured := .fatal }, by decide +kernel⟩,
    by decide⟩

/-- UNIT_RESERVE at 32 against a table of FIELD entries, and against none; a TABLE FULL entry that
the hysteresis check restores. -/
theorem test_hyps_SetLimitsAnswers :
    126 - 32 < standing (fullOf (anEntry keyNine .field .activeUnack false 1)
        State.reset).engine.slots .field
      ∧ standing State.reset.engine.slots .field ≤ 126 - 32
      ∧ (given [32, 1, 100] State.reset).arguments.argAt 0 = 32
      ∧ (holding 127 (anEntry (tableFullKey .field) .unit .activeUnack false 1)
          State.reset).engine.slots[(127 : Fin 128)].entry
          = some (anEntry (tableFullKey .field) .unit .activeUnack false 1)
      ∧ 4 ≤ usableFree (holding 127 (anEntry (tableFullKey .field) .unit .activeUnack false 1)
          State.reset).engine.slots 32 .field := by decide +kernel

/-- A clock load that leaves a running window short of its length, and one that reaches it. -/
theorem test_hyps_SetStampLoadsClock :
    ({ State.reset with clock := 2999, topo.verify := ⟨true, 0, false⟩ } : State).expiryDue = false
      ∧ ({ State.reset with clock := 3000, topo.verify := ⟨true, 0, false⟩ } : State).expiryDue
          = true := by decide

theorem test_hyps_SetModeAnswers :
    1 < ((given [2] State.reset).arguments.argAt 0).toNat
      ∧ (given [1] State.reset).arguments.argAt 0 = 1 ∧ State.reset.topo.state ≠ .loaded
      ∧ (loaded .present).topo.state = .loaded
      ∧ (given [0] State.reset).arguments.argAt 0 = 0 := by decide +kernel

theorem test_hyps_GrantAnswers :
    ({ State.reset with release.fatalCopy := 1 } : State).release.fatalCopy ≠ 0
      ∧ State.reset.release.mode ≠ .run
      ∧ ({ State.reset with release.mode := .run } : State).topo.state ≠ .loaded
      ∧ ({ loaded .present with release := ⟨.run, .granted, 0⟩ } : State).release.state = .granted
      ∧ ({ loaded .present with release := ⟨.run, .withheld, 0⟩ } : State).release.state
          ≠ .granted := by decide

/-! ## Hypotheses met: reading -/

theorem pathLaw_loaded (p : Presence) : PathLaw (loaded p) := by
  unfold PathLaw
  cases p <;> decide +kernel

theorem rootLaw_loaded (p : Presence) : RootLaw (loaded p) :=
  ⟨⟨Location.root, rfl, rfl, rfl, rfl, rfl, rfl⟩, rfl⟩

theorem test_hyps_LookupAnswers :
    RootLaw (loaded .present) ∧ PathLaw (loaded .present)
      ∧ ((given [12, 0, 0xFF, 0xFF] State.reset).arguments.argPath 0).wellFormed = false
      ∧ ((given [0, 1, 0xFF, 0xFF] (loaded .present)).arguments.argPath 0).wellFormed = true
      ∧ (loaded .present).topo.locs[1]? = some (stationRecord .present)
      ∧ (stationRecord .present).path.covers ⟨0, 1, 0xFF, 0xFF⟩ = true
      ∧ ∀ m ∈ (loaded .present).topo.locs, m.path.covers ⟨0, 1, 0xFF, 0xFF⟩ = true →
          m.path.covers (stationRecord .present).path = true := by
  refine ⟨rootLaw_loaded _, pathLaw_loaded _, ?_⟩
  decide +kernel

/-- A bay below an absent station is cut. -/
theorem test_hyps_LookupAnswers_cut :
    ∀ locs : List Location,
      locs = (loaded .absent).topo.locs ++
        [{ stationRecord .present with
            path := ⟨0, 1, 0xFF, 0xFF⟩, level := .bay, parent := 1, agent := 0 }] →
      (∀ m, m ≤ 0 → (parentOf locs)^[m] 2 ≠ 0)
        ∧ locs[(parentOf locs)^[1] 2]? = some (stationRecord .absent) := by
  rintro locs rfl
  exact ⟨fun m hm => by rw [Nat.le_zero.mp hm]; decide, by decide⟩

theorem test_hyps_GetAnswers :
    127 < ((given [128] State.reset).arguments.argAt 0).toNat
      ∧ (127 : Fin 128).val = ((given [127, 0] State.reset).arguments.argAt 0).toNat
      ∧ (holding 127 (anEntry keyNine .unit .activeUnack false 1)
          State.reset).engine.slots[(127 : Fin 128)]
          = ⟨(given [127, 0] State.reset).arguments.argAt 1,
              some (anEntry keyNine .unit .activeUnack false 1)⟩
      ∧ ∀ e : Entry, State.reset.engine.slots[(127 : Fin 128)] ≠ ⟨0, some e⟩ := by
  refine ⟨by decide +kernel, by decide +kernel, by decide +kernel, ?_⟩
  intro e h
  have := entry_reset 127
  rw [h] at this
  cases this

/-- The arguments at the ends of their ranges, and a cursor number that is out of range. -/
theorem test_hyps_ListOpenAnswers :
    ∀ w : Window, w = (given [3, 3, 7, 2, 1, 0, 0, 0xFF, 0xFF] State.reset).arguments →
      (w.argAt 0).toNat ≤ 3 ∧ (w.argAt 1).toNat ≤ 3 ∧ (w.argAt 2).toNat ≤ 7
        ∧ (w.argAt 3).toNat ≤ 2 ∧ w.argAt 4 = 1 ∧ (w.argPath 5).wellFormed = true
        ∧ ¬ ((given [4, 3, 7, 2, 0] State.reset).arguments.argAt 0).toNat ≤ 3
        ∧ 1 ≤ ((given [0, 1, 1, 0, 0] State.reset).arguments.argAt 1).toNat
        ∧ (given [0, 1, 1, 0, 0] State.reset).arguments.argAt 4 = 0 := by
  rintro w rfl
  decide +kernel

/-- Cursor 0 open, with bound 1. -/
def opened : State :=
  { State.reset with
    engine.cursors := State.reset.engine.cursors.set 0 ⟨.opened, 3, 7, .notice, none, 1, 0⟩ }

theorem test_hyps_ListNextAndCloseAnswer :
    3 < ((given [4] State.reset).arguments.argAt 0).toNat
      ∧ ((given [3] State.reset).arguments.argAt 0).toNat ≤ 3
      ∧ (cursorAt State.reset.engine.cursors 3).state = .closed
      ∧ (cursorAt opened.engine.cursors 0).state = .opened
      ∧ (cursorAt (opened.engine.cursors.set 0 ⟨.exhausted, 3, 7, .notice, none, 1, 0⟩) 0).state
          = .exhausted
      ∧ ∀ (c : Cursor) (ahead : Entry → Prop), c = cursorAt opened.engine.cursors 0 →
          (∀ e, ahead e ↔ c.matches e = true ∧ c.last < e.seq ∧ e.seq ≤ c.bound) →
          ahead (anEntry keyNine .field .activeUnack false 1)
            ∧ (∀ (j : Fin 128) (f : Entry),
                (holding 5 (anEntry keyNine .field .activeUnack false 1)
                  opened).engine.slots[j].entry = some f → ahead f → j ≠ 5 → 1 < f.seq)
            ∧ ∀ (i : Fin 128) (e : Entry), State.reset.engine.slots[i].entry = some e →
                ¬ ahead e := by
  refine ⟨by decide +kernel, by decide +kernel, by decide, by decide, by decide, ?_⟩
  rintro c ahead rfl ha
  simp only [ha]
  refine ⟨by decide +kernel, entries_of_check _ (fun j f =>
      (cursorAt opened.engine.cursors 0).matches f = true
        ∧ (cursorAt opened.engine.cursors 0).last < f.seq
        ∧ f.seq ≤ (cursorAt opened.engine.cursors 0).bound → j ≠ 5 → 1 < f.seq)
      (by decide +kernel), ?_⟩
  intro i e h
  rw [entry_reset] at h
  cases h

theorem test_hyps_AgentInfoAnswers :
    62 < ((given [63] State.reset).arguments.argAt 0).toNat
      ∧ findAgent (loaded .present).link.roster 62 = none
      ∧ (loaded .present).link.roster.Pairwise (fun x y => x.address.toNat < y.address.toNat)
      ∧ (∀ y ∈ (loaded .present).link.roster, y.address.toNat ≤ (62 : Byte).toNat)
      ∧ (∃ x ∈ (loaded .present).link.roster, x.address = 1 ∧ (0 : Byte).toNat < (1 : Byte).toNat
          ∧ ∀ y ∈ (loaded .present).link.roster, (0 : Byte).toNat < y.address.toNat →
            (1 : Byte).toNat ≤ y.address.toNat)
      ∧ findAgent (loaded .present).link.roster 1 = some (agentOne .online 0 false) := by
  decide +kernel

/-! ## Hypotheses met: acknowledging and clearing -/

/-- The handle of index 0, generation 0. -/
def ackState (st : EntryState) (latching : Bool) : State :=
  given [0, 0] (holding 0 (anEntry keyNine .field st latching 1) State.reset)

theorem test_hyps_AckAnswers :
    127 < ((given [128] State.reset).arguments.argAt 0).toNat
      ∧ (ackState .activeUnack false).engine.slots[(0 : Fin 128)]
          = ⟨0, some (anEntry keyNine .field .activeUnack false 1)⟩
      ∧ (ackState .activeAck false).engine.slots[(0 : Fin 128)]
          = ⟨0, some (anEntry keyNine .field .activeAck false 1)⟩
      ∧ (ackState .clearedUnack true).engine.slots[(0 : Fin 128)]
          = ⟨0, some (anEntry keyNine .field .clearedUnack true 1)⟩
      ∧ (ackState .clearedUnack false).engine.slots[(0 : Fin 128)]
          = ⟨0, some (anEntry keyNine .field .clearedUnack false 1)⟩
      ∧ (∀ e : Entry, (given [0, 1] (ackState .activeAck false)).engine.slots[(0 : Fin 128)]
          ≠ ⟨1, some e⟩) := by
  refine ⟨by decide +kernel, by decide +kernel, by decide +kernel, by decide +kernel,
    by decide +kernel, ?_⟩
  intro e h
  have h1 : (given [0, 1] (ackState .activeAck false)).engine.slots[(0 : Fin 128)].gen = 0 := by
    decide +kernel
  rw [h] at h1
  cases h1

theorem test_hyps_AckAllAnswers :
    3 < ((given [4] State.reset).arguments.argAt 0).toNat
      ∧ 1 ≤ ((given [2] (ackState .activeUnack false)).arguments.argAt 0).toNat
      ∧ (2 : Byte).getLsbD 1 = true ∧ (1 : Byte).getLsbD 1 = false := by
  decide +kernel

/-- A cleared FIELD entry leaves the table, so TABLE FULL of UNIT is cleared before ACK-ALL comes to
it, is not acknowledged, and leaves the table as well. -/
theorem test_ackAll_comes_to_an_eased_entry :
    (after (.ackAll .free) (given [3] (holding 0 (anEntry keyNine .field .clearedUnack false 2)
        (holding 126 (anEntry (tableFullKey .unit) .unit .activeUnack false 1)
          State.reset)))).window.resp = respOf [3, 0, 2, 0]
      ∧ (after (.ackAll .free) (given [3]
          (holding 126 (anEntry (tableFullKey .unit) .unit .activeUnack false 1)
            State.reset))).window.resp = respOf [3, 1, 0, 0] := by decide +kernel

/-- CLEAR-DOMAIN of FIELD, presented and not yet granted. -/
def sweepPresented : State := after .clearDomain (given [1] (ackState .activeUnack false))

theorem test_hyps_ClearDomainStartsItsSweep :
    1 < ((given [2] State.reset).arguments.argAt 0).toNat
      ∧ ((given [1] State.reset).arguments.argAt 0).toNat ≤ 1
      ∧ sweepPresented.live = true ∧ sweepPresented.window.waiting = true
      ∧ sweepPresented.window.cmd = 0x52 ∧ sweepPresented.nextGrant = some .window
      ∧ sweepPresented.window.argCopy[0] = 1
      ∧ ({ sweepPresented with window.argCopy := argsOf [0] } : State).window.argCopy[0] = 0 := by
  decide +kernel

/-- CLEAR-DOMAIN given at the end of a transaction releases the port and waits. -/
theorem test_clearDomain_ends_its_transaction (p : Port)
    (h : p ∈ [.released, .header, .writing 0x01 (some 0x52), .reading 0x05]) :
    ({ given [1] State.reset with port := p } : State).takes
      ∧ exec .clearDomain { given [1] State.reset with port := p }
          = .next (({ given [1] State.reset with port := p } : State).waitsWith 0x52)
      ∧ (after .clearDomain { given [1] State.reset with port := p }).port = .released := by
  unfold State.takes
  simp only [List.mem_cons, List.not_mem_nil, or_false] at h
  rcases h with rfl | rfl | rfl | rfl <;> exact ⟨by decide, by rfl, by decide⟩

/-- A sweep whose next step is step k. -/
def sweeping (k : Nat) : State :=
  { ackState .activeUnack false with
    window.cmdState := .busy, engine.sweep := some ⟨.field, 1, k, 0, 0, false⟩ }

theorem test_hyps_SweepStepRetiresMarked :
    (sweeping 0).sweepStepDue ⟨.field, 1, 0, 0, 0, false⟩ = true
      ∧ (sweeping 15).sweepStepDue ⟨.field, 1, 15, 0, 0, false⟩ = true
      ∧ (Slot.mk 0 (some { anEntry keyNine .field .activeUnack false 1 with
          sweepMark := true })).holds (·.sweepMark) = true := by decide +kernel

/-- Step 15 retires the marked TABLE FULL entry of UNIT, and eases the unmarked one of FIELD. -/
theorem test_sweep_step_15_retires_table_full :
    ∀ s t : State, s =
        holding 127 (anEntry (tableFullKey .field) .unit .activeAck false 2)
          (holding 126 { anEntry (tableFullKey .unit) .unit .activeUnack false 1 with
            sweepMark := true } (sweeping 15)) →
      t = after .sweepStep s →
      t.engine.slots[tableFullIndex .unit] = ⟨1, none⟩
        ∧ t.engine.slots[tableFullIndex .field]
            = s.engine.slots[tableFullIndex .field].eased true
        ∧ t.engine.slots[tableFullIndex .field] = ⟨1, none⟩ ∧ t.engine.sweep = none := by
  rintro s t rfl rfl
  decide +kernel

/-! ## Hypotheses met: the controller's conditions -/

theorem test_hyps_RaiseAppCreates :
    keyNine.path.wellFormed = true
      ∧ (groupOf (withNine false State.reset).groups 9).enabled = true
      ∧ 0 < usableFree State.reset.engine.slots State.reset.limits.reserve .field
      ∧ State.reset.engine.slots[(0 : Fin 128)].entry = none
      ∧ (∀ j : Fin 128, j < 1 →
          (holding 0 (anEntry ⟨stationPath 1, 9, 7⟩ .field .activeUnack false 1)
            State.reset).engine.slots[j].entry ≠ none)
      ∧ (∀ (j : Fin 128) (f : Entry), State.reset.engine.slots[j].entry = some f →
          f.key ≠ keyNine)
      ∧ ((given (nineBytes ++ [20]) State.reset).arguments.argAt 6).toNat ≤ 20 := by
  refine ⟨by decide, by decide +kernel, by decide +kernel, entry_reset 0, ?_, ?_, by decide +kernel⟩
  · intro j hj
    have : j = 0 := by omega
    subst this
    decide +kernel
  · intro j f h
    rw [entry_reset] at h
    cases h

/-- The key stands alone, in each of its states; a burst that reaches its threshold at the end of
the window, and one that starts again after it. -/
theorem test_hyps_RaiseAppOnStandingKey :
    (∀ (j : Fin 128) (f : Entry), (ackState .activeUnack false).engine.slots[j].entry = some f →
        f.key = keyNine → j = 0)
      ∧ (ackState .clearedUnack false).engine.slots[(0 : Fin 128)].entry
          = some (anEntry keyNine .field .clearedUnack false 1)
      ∧ (groupOf (withNine true State.reset).groups 9).momentary = true
      ∧ (groupOf (withNine false State.reset).groups 9).momentary = false
      ∧ (groupOf State.reset.groups 9).burstWindow.toNat = 1000
      ∧ (({ State.reset with clock := 1000 } : State).clock
          - (anEntry keyNine .field .activeUnack false 1).burstStart).toNat = 1000
      ∧ min 255 ((anEntry keyNine .field .activeUnack false 1).burstCount + 1) = 2
      ∧ (anEntry keyNine .field .activeUnack false 1).logged ≠ .notice
      ∧ (anEntry keyNine .field .activeUnack false 1).escalated = false := by
  refine ⟨entries_of_check _ (fun j f => f.key = keyNine → j = 0) (by decide +kernel), ?_⟩
  decide +kernel

/-- A tripped state that holds one active FATAL entry of group 9, escalated by its next raise. -/
def escalating (latching runDemoted : Bool) (mode : Mode) : State :=
  given nineBytes
    { holding 0 { anEntry keyNine .field .activeUnack latching 1 with executed := .fatal }
        State.reset with
      groups := State.reset.groups.set 8 { GroupRecord.openDefault with
        enabled := true, runDemoted, burstThreshold := 2 }
      release := ⟨mode, .tripped, 1⟩ }

/-- The action, the escalated flag and the release state after that raise. -/
def escalated (latching runDemoted : Bool) (mode : Mode) : Option (Action × Bool) × ReleaseState :=
  let t := after (.raiseApp .free) (escalating latching runDemoted mode)
  (t.engine.slots[(0 : Fin 128)].entry.map (fun e => (e.executed, e.escalated)), t.release.state)

/-- An escalation in RUN computes a FATAL entry of a run-demoted group DIAGNOSTIC, latching or not,
and the trip ends; in HOLD, or without the flag of the group, it stays FATAL (log entry 31). -/
theorem test_escalation_computes_the_action :
    (∀ latching, escalated latching true .run = (some (.diagnostic, true), .withheld))
      ∧ (∀ latching, escalated latching true .hold = (some (.fatal, true), .tripped))
      ∧ (∀ latching, escalated latching false .run = (some (.fatal, true), .tripped)) := by
  decide +kernel

theorem test_hyps_RaiseAppRefused :
    ((given [0, 0, 0xFF, 0xFF, 7] State.reset).arguments.argAt 4).toNat < 8
      ∧ 31 < ((given [0, 0, 0xFF, 0xFF, 32] State.reset).arguments.argAt 4).toNat
      ∧ 20 < ((given (nineBytes ++ [21]) State.reset).arguments.argAt 6).toNat
      ∧ (groupOf State.reset.groups 31).enabled = false
      ∧ (groupOf State.reset.groups 8).enabled = true
      ∧ 4294967295 < ({ State.reset with engine.seqNext := 4294967296 } : State).engine.seqNext := by
  decide +kernel

/-- A state of a full table whose entries are all as e, but index 127, which holds x. -/
def fullState (e : Entry) (x : Option Entry) : State :=
  given nineBytes (withNine false { fullOf e State.reset with
    engine.slots := (fullOf e State.reset).engine.slots.set 127 ⟨0, x⟩ })

/-- An ACTIVE-UNACK entry at station 1, which is no candidate. -/
def lasting : Entry := anEntry ⟨stationPath 1, 9, 7⟩ .field .activeUnack false 1

/-- TABLE FULL of FIELD, in a state. -/
def tableFull (st : EntryState) : Entry := anEntry (tableFullKey .field) .unit st false 1

/-- No candidate; index 127 is FREE, or holds TABLE FULL, active or cleared. -/
theorem test_hyps_RefusalForSpace (x : Option Entry)
    (hx : x ∈ [none, some (tableFull .activeUnack), some (tableFull .clearedUnack)]) :
    ((taking (fullState lasting x)).group 9).domain = .field
      ∧ ((taking (fullState lasting x)).group 6).momentary = false
      ∧ ((taking (fullState lasting x)).group 6).burstThreshold = 0
      ∧ (taking (fullState lasting x)).locs[0]? = some Location.root
      ∧ (∀ d, keyNine ≠ tableFullKey d)
      ∧ (∀ (j : Fin 128) (f : Entry), (taking (fullState lasting x)).entry j = some f →
          f.key ≠ keyNine)
      ∧ usableFree (taking (fullState lasting x)).slots 16 .field ≤ 0
      ∧ (∀ (j : Fin 128) (f : Entry), (taking (fullState lasting x)).entry j = some f →
          displaceable .field j f = false)
      ∧ (∀ (j : Fin 128) (f : Entry), (taking (fullState lasting x)).entry j = some f →
          (f.key = ⟨LocPath.root, 6, 2⟩ ↔ j = 127)) := by
  have hk : ∀ d, keyNine ≠ tableFullKey d := fun d => by cases d <;> decide
  simp only [List.mem_cons, List.not_mem_nil, or_false] at hx
  rcases hx with rfl | rfl | rfl <;>
    exact ⟨by decide +kernel, by decide +kernel, by decide +kernel, by decide +kernel, hk,
      entries_of_check _ (fun _ f => f.key ≠ keyNine) (by decide +kernel), by decide +kernel,
      entries_of_check _ (fun j f => displaceable .field j f = false) (by decide +kernel),
      entries_of_check _ (fun j f => (f.key = ⟨LocPath.root, 6, 2⟩ ↔ j = 127)) (by decide +kernel)⟩

/-- A RAISE-APP that is refused for space. -/
theorem test_hyps_RefusalForSpace_command :
    ((taking (fullState lasting none)).raise ⟨keyNine, [], .controller⟩).2 = .full
      ∧ (fullState lasting none).arguments.argPath 0 = keyNine.path
      ∧ (fullState lasting none).arguments.argAt 6 = 0
      ∧ (groupOf (fullState lasting none).groups 9).enabled = true
      ∧ (fullState lasting none).takes ∧ (fullState lasting none).grantsWindow := by
  unfold State.takes State.grantsWindow
  decide +kernel

/-- An entry that may be displaced. -/
def candidate : Entry :=
  { anEntry ⟨stationPath 2, 9, 7⟩ .field .clearedUnack false 2 with
    logged := .notice, executed := .notice }

/-- One candidate in a full table: index 3. -/
def displacing : State :=
  { fullState lasting none with
    engine.slots := (fullState lasting none).engine.slots.set 3 ⟨0, some candidate⟩
    engine.seqNext := 3 }

theorem test_hyps_DisplacementReusesOldest :
    (∀ (j : Fin 128) (f : Entry), (taking displacing).entry j = some f → f.key ≠ keyNine)
      ∧ usableFree (taking displacing).slots 16 .field = 0
      ∧ (taking displacing).entry 3 = some candidate ∧ displaceable .field 3 candidate = true
      ∧ (∀ (j : Fin 128) (f : Entry), (taking displacing).entry j = some f →
          displaceable .field j f = true → j ≠ 3 → 2 < f.seq) := by
  refine ⟨entries_of_check _ (fun _ f => f.key ≠ keyNine) (by decide +kernel), by decide +kernel,
    by decide +kernel, by decide, entries_of_check _
    (fun j f => displaceable .field j f = true → j ≠ 3 → 2 < f.seq) (by decide +kernel)⟩

/-- A RAISE-APP that displaces. -/
theorem test_hyps_DisplacementReusesOldest_command :
    ((taking displacing).raise ⟨keyNine, [], .controller⟩).2 = .created
      ∧ (((taking displacing).raise ⟨keyNine, [], .controller⟩).1.slots[(3 : Fin 128)].entry.map
          (·.key)) = some keyNine
      ∧ ∀ (j : Fin 128) (f : Entry),
          ((taking displacing).raise ⟨keyNine, [], .controller⟩).1.slots[j].entry = some f →
          f.key = keyNine → j = 3 := by
  refine ⟨by decide +kernel, by decide +kernel,
    entries_of_check _ (fun j f => f.key = keyNine → j = 3) (by decide +kernel)⟩

theorem test_hyps_RestoreAppAnswers :
    (given [0, 0, 0xFF, 0xFF, 9, 7] State.reset).arguments.argPath 0 = keyNine.path
      ∧ (ackState .activeUnack true).engine.slots[(0 : Fin 128)].entry
          = some (anEntry keyNine .field .activeUnack true 1)
      ∧ (ackState .activeAck false).engine.slots[(0 : Fin 128)].entry
          = some (anEntry keyNine .field .activeAck false 1)
      ∧ (∀ (j : Fin 128) (f : Entry), (ackState .activeAck false).engine.slots[j].entry = some f →
          f.key = keyNine → j = 0) := by
  refine ⟨by decide +kernel, by decide +kernel, by decide +kernel,
    entries_of_check _ (fun j f => f.key = keyNine → j = 0) (by decide +kernel)⟩

theorem test_hyps_WarmRestart :
    (loaded .present).topo.state = .loaded
      ∧ (ackState .activeUnack true).engine.slots[(0 : Fin 128)].entry
          = some (anEntry keyNine .field .activeUnack true 1)
      ∧ (after (.warmRestart .free) (loaded .present)).window.restart
          = some ⟨[0, 0, 0, 0, 1], false⟩
      ∧ (after (.warmRestartComplete .clear)
          (after (.warmRestart .free) (loaded .present))).window.restart
          = some ⟨[0, 0, 0, 0, 1], true⟩ := by decide +kernel

/-! ## Hypotheses met: time and the link -/

/-- The verify window of an UNVERIFIED station, expired and waiting. -/
def expired : State := { loaded .unverified with topo.verify := ⟨false, 0, true⟩ }

theorem test_hyps_ExpiryRequestRaisesSilent :
    expired.live = true ∧ expired.nextGrant = some .verify
      ∧ expired.topo.locs[1]? = some (stationRecord .unverified)
      ∧ cut expired.topo.locs 1 = false
      ∧ silentPaths expired.topo.locs = [stationPath 0]
      ∧ (∀ l ∈ (loaded .present).topo.locs, l.presence ≠ .unverified) := by decide +kernel

theorem test_hyps_TimeMoves :
    ({ State.reset with clock := 2999, topo.verify := ⟨true, 0, false⟩ } : State).clocked = true
      ∧ State.reset.expiryDue = false
      ∧ ({ State.reset with clock := 3000, topo.verify := ⟨true, 0, false⟩ } : State).expiryDue
          = true := by decide

/-- Come to agent 1, whose POLL waits for the line. -/
def calling : State :=
  { loaded .present with
    link.phase := .calling, link.position := some 1, link.roster := [agentOne .online 0 false] }

/-- The POLL of agent 1 being sent. -/
def sendingPoll : State := after .poll calling

theorem test_poll_raises_lde :
    sendingPoll.lde = true ∧ sendingPoll.ltx.length = 70
      ∧ (after .poll sendingPoll).lde = false := by
  decide +kernel

theorem test_last_exchange_begins_the_gap :
    (after .replyWindowClose (after .poll sendingPoll)).link.phase = .gap 2
      ∧ (after .replyWindowClose (after .poll sendingPoll)).link.position = some 1 := by
  decide +kernel

theorem test_hyps_RoundsAndPolls :
    ({ loaded .present with link.phase := .due } : State).clocked = true
      ∧ (loaded .present).link.roster ≠ [] ∧ (loaded .present).link.exchange = none
      ∧ ({ loaded .present with link.phase := .gap 0 } : State).link.phase = .gap 0
      ∧ (after (.warmRestart .free) (loaded .present)).link.phase = .dueAfter
      ∧ (after (.warmRestart .free) (loaded .present)).link.exchange = none
      ∧ calling.clocked = true ∧ calling.topo.state = .loaded ∧ calling.link.phase = .calling
      ∧ calling.link.exchange = none ∧ calling.link.line = .idle
      ∧ calling.link.position = some 1
      ∧ findAgent calling.link.roster 1 = some (agentOne .online 0 false)
      ∧ (after .poll sendingPoll).link.phase = .polling
      ∧ (after .poll sendingPoll).link.position = some 1
      ∧ (after .poll sendingPoll).link.line ≠ .sending
      ∧ (after .poll sendingPoll).link.exchange.map (·.judged) = some false
      ∧ (List.replicate 22 (0xB4 : Byte)).length ≤ 22 := by decide +kernel

/-- The line while a POLL is sent, while bytes are discarded, and after a reply of 23 bytes. -/
theorem test_hyps_LineCarriesPolls :
    sendingPoll.lde = true ∧ sendingPoll.link.exchange.isSome = true ∧ sendingPoll.clocked = true
      ∧ (after (.replyJudge true (List.replicate 23 0)) (loaded .present)).link.line = .busy
      ∧ (loaded .present).link.exchange = none
      ∧ (after .poll sendingPoll).link.line ≠ .sending
      ∧ (after (.replyJudge true (List.replicate 23 0)) (after .poll sendingPoll)).link.exchange.map
          (·.judged) = some true := by decide +kernel

/-- While a POLL is sent neither a reply nor the end of its window is seen. -/
theorem test_a_reply_while_sending_is_not_judged :
    after (.replyJudge true (frameOf 0x03 [])) sendingPoll = sendingPoll
      ∧ after .replyWindowClose sendingPoll = sendingPoll
      ∧ (after (.replyJudge true (frameOf 0x03 [])) (after .poll sendingPoll)).link.exchange
          = none := by decide +kernel

/-- After WARM-RESTART the new round waits for the exchange on the line, one that a commit has
overtaken too. -/
theorem test_round_after_restart_waits_for_the_line (fate : ExchangeFate)
    (h : fate ∈ [.live, .busyOnly, .dropped]) :
    ∀ s : State, s = { loaded .present with
        link.exchange := some ⟨1, [], fate, false⟩, link.phase := .dueAfter } →
      after .roundStart s = s
        ∧ (after .roundStart (after .replyWindowClose s)).link.phase
            ≠ (after .replyWindowClose s).link.phase := by
  rintro s rfl
  simp only [List.mem_cons, List.not_mem_nil, or_false] at h
  rcases h with rfl | rfl | rfl <;> decide +kernel

/-- A commit has overtaken the exchange, inside COMMITTING and after it. -/
def overtaken (fate : ExchangeFate) : State :=
  { loaded .present with link.exchange := some ⟨1, [], fate, false⟩ }

theorem test_hyps_OvertakenExchanges :
    (overtaken .busyOnly).clocked = true ∧ (overtaken .dropped).clocked = true
      ∧ (overtaken .busyOnly).link.phase ≠ .polling ∧ (overtaken .dropped).link.line ≠ .sending
      ∧ findAgent (overtaken .busyOnly).link.roster 1 = some (agentOne .online 0 false)
      ∧ judgeFrame 1 true (reportFrame 6 4 9 7) = .report (reportOf 6 4 9 7)
      ∧ judgeFrame 1 true (reportFrame 5 1 9 7) = .report (reportOf 5 1 9 7)
      ∧ findAgent ({ overtaken .dropped with link.roster := [] } : State).link.roster 1
          = none := by decide +kernel

/-- A frame for each clause of R114, at the boundaries of size. -/
theorem test_hyps_RepliesAreJudgedInOrder :
    judgeFrame 1 true (frameOf 0x03 []) = .quiet
      ∧ (frameOf 0x03 []).length = 5
      ∧ judgeFrame 1 true (reportFrame 6 1 9 7) = .report (reportOf 6 1 9 7)
      ∧ (reportFrame 6 1 9 7).length = 14
      ∧ judgeFrame 1 false (frameOf 0x03 []) = .bad 2
      ∧ judgeFrame 1 true (List.replicate 23 0xB4) = .bad 2
      ∧ judgeFrame 1 true [0xB4, 0x81, 0x03, 0, 0] = .bad 1
      ∧ judgeFrame 2 true (frameOf 0x03 []) = .bad 3
      ∧ judgeFrame 1 true (frameOf 0x01 []) = .bad 3
      ∧ judgeFrame 1 true (frameOf 0x03 [0]) = .bad 2
      ∧ judgeFrame 1 true (frameOf 0x02 ([6, 1, 0, 0, 0xFF, 0xFF, 9, 7, 8] ++ List.replicate 8 1))
          = .report { reportOf 6 1 9 7 with detail := List.replicate 8 1 }
      ∧ judgeFrame 1 true (frameOf 0x02 ([6, 1, 0, 0, 0xFF, 0xFF, 9, 7, 7] ++ List.replicate 8 1))
          = .bad 2 := by decide +kernel

theorem test_hyps_QuietAndMisses :
    (exchanging (loaded .present)).clocked = true
      ∧ (exchanging (loaded .present)).link.line ≠ .sending
      ∧ (exchanging (loaded .present)).link.exchange = some ⟨1, [], .live, false⟩
      ∧ findAgent (exchanging (loaded .present)).link.roster 1 = some (agentOne .online 0 false)
      ∧ judgeFrame 1 true (frameOf 0x03 []) = .quiet
      ∧ judgeFrame 1 true [0xB4] = .bad 2
      ∧ judgeFrame 1 true (List.replicate 23 0xB4) = .bad 2
      ∧ 22 < (List.replicate 23 (0xB4 : Byte)).length := by decide +kernel

theorem test_hyps_ReportsAreQueuedOnce :
    judgeFrame 1 true (reportFrame 5 1 9 7) = .report (reportOf 5 1 9 7)
      ∧ (agentOne .online 0 false).lastSeq = 5
      ∧ judgeFrame 1 true (reportFrame 0 1 9 7) = .report (reportOf 0 1 9 7)
      ∧ judgeFrame 1 true (reportFrame 6 5 9 7) = .report (reportOf 6 5 9 7)
      ∧ (reportOf 6 5 9 7).kindOk = false ∧ (reportOf 6 4 9 7).kindOk = true
      ∧ judgeFrame 1 true (reportFrame 6 4 9 7) = .report (reportOf 6 4 9 7)
      ∧ ([.report (reportOf 6 4 9 7)] : List LinkEntry).any LinkEntry.isReport = true
      ∧ ([.part 1 none true] : List LinkEntry).any LinkEntry.isReport = false := by
  decide +kernel

/-- An agent at a station: the home's path, a path inside and one outside its part of the tree, an
open group and a part-owned one. -/
theorem test_hyps_ReportsAreAnswered_checks :
    findAgent (queued (reportOf 6 1 9 7) (loaded .present)).link.roster 1
        = some (agentOne .online 0 true)
      ∧ (loaded .present).topo.locs[(agentOne .online 0 true).home]?
          = some (stationRecord .present)
      ∧ (stationRecord .present).path.bay = 0
      ∧ (reportOf 6 1 9 7).path.station = (stationRecord .present).path.station
      ∧ (stationPath 1).station ≠ (stationRecord .present).path.station
      ∧ (groupOf (withNine false State.reset).groups 9).enabled = true
      ∧ (groupOf State.reset.groups 31).enabled = false ∧ ¬ (9 : Nat) ≤ (8 : Byte).toNat
      ∧ presenceAt (loaded .absent).topo.locs (anchorOf (loaded .absent).topo.locs (stationPath 0))
          = .absent
      ∧ configured (loaded .present).topo.locs (stationPath 0) = some 1
      ∧ cut (loaded .present).topo.locs 1 = false := by decide +kernel

theorem test_hyps_ReportsAreAnswered :
    (queued (reportOf 6 1 9 7) (loaded .present)).live = true
      ∧ (queued (reportOf 6 1 9 7) (loaded .present)).nextGrant = some .link
      ∧ raiseRefusal (queued (reportOf 6 1 9 7) (loaded .present)) (reportOf 6 1 9 7)
          = some .refusedGroup
      ∧ raiseRefusal (queued (reportOf 6 1 9 7) (withNine false (loaded .present)))
          (reportOf 6 1 9 7) = none
      ∧ raiseRefusal (queued (reportOf 6 1 9 7) (withNine false (loaded .absent)))
          (reportOf 6 1 9 7) = some .refusedUnreachable
      ∧ restoreRefusal (queued (reportOf 6 2 8 7) (loaded .present)) (reportOf 6 2 8 7)
          = some .refusedGroup
      ∧ restoreRefusal (queued (reportOf 6 2 9 7) (withNine false (loaded .present)))
          (reportOf 6 2 9 7) = none
      ∧ arriveRefusal (queued (reportOf 6 3 1 0) (loaded .present)) (reportOf 6 3 1 0)
          = some .refusedMalformed
      ∧ departRefusal (queued (reportOf 6 4 0 1) (loaded .present)) (reportOf 6 4 0 1)
          = some .refusedMalformed := by decide +kernel

/-- A bay below station 0 that the map does not hold. -/
theorem test_hyps_ReportsAreAnswered_unconfigured :
    arriveRefusal (queued { reportOf 6 3 0 1 with path := ⟨0, 1, 0xFF, 0xFF⟩ } (loaded .present))
        { reportOf 6 3 0 1 with path := ⟨0, 1, 0xFF, 0xFF⟩ } = none
      ∧ departRefusal (queued { reportOf 6 4 0 0 with path := ⟨0, 1, 0xFF, 0xFF⟩ }
          (loaded .present)) { reportOf 6 4 0 0 with path := ⟨0, 1, 0xFF, 0xFF⟩ } = none
      ∧ configured (loaded .present).topo.locs ⟨0, 1, 0xFF, 0xFF⟩ = none := by decide +kernel

/-- An arrival of the right kind and of another, at an absent location and at an unverified one
where SILENT stands; a departure. -/
theorem test_hyps_Arrival_and_Departure :
    arriveRefusal (queued (reportOf 6 3 0 1) (loaded .absent)) (reportOf 6 3 0 1) = none
      ∧ configured (loaded .absent).topo.locs (stationPath 0) = some 1
      ∧ (loaded .absent).topo.locs[1]? = some (stationRecord .absent)
      ∧ (stationRecord .absent).kind = (reportOf 6 3 0 1).code
      ∧ (stationRecord .absent).kind ≠ (reportOf 6 3 0 2).code
      ∧ (findKey (holding 0 (anEntry ⟨stationPath 0, 2, 0⟩ .field .activeUnack false 1)
          (loaded .unverified)).engine.slots ⟨stationPath 0, 2, 0⟩).isSome = true
      ∧ departRefusal (queued (reportOf 6 4 0 0) (loaded .present)) (reportOf 6 4 0 0) = none
      ∧ cut (loaded .present).topo.locs 1 = false := by decide +kernel

theorem test_hyps_PartEntriesAreWorkedWhole :
    (partQueued (some 2) true (loaded .present)).live = true
      ∧ (partQueued (some 2) true (loaded .present)).nextGrant = some .link
      ∧ findAgent (partQueued (some 2) true (loaded .present)).link.roster 1
          = some (agentOne .lapsed 3 true) := by decide +kernel

/-! ## Hypotheses met: the laws -/

/-- The laws' hypotheses are met by the reset state with a millisecond pending, which steps. -/
def ticking : State := State.reset.withPending [.stampTick]

theorem entry_ticking (i : Fin 128) : ticking.engine.slots[i].entry = none := entry_reset i

theorem test_hyps_ReleaseLawKept : ReleaseLaw ticking ∧ ∃ t, step ticking = .next t :=
  ⟨by unfold ReleaseLaw; decide, _, rfl⟩

theorem test_hyps_CountsLawKept : CountsLaw ticking ∧ ∃ t, step ticking = .next t :=
  ⟨fun _ => by decide +kernel, _, rfl⟩

theorem test_hyps_TableLawsKept :
    (KeyLaw ticking ∧ SequenceLaw ticking ∧ NoticeLaw ticking ∧ ReservedLaw ticking)
      ∧ ∃ t, step ticking = .next t := by
  have none_stands : ∀ (i : Fin 128) (e : Entry), ticking.engine.slots[i].entry = some e → False :=
    fun i e h => by rw [entry_ticking] at h; cases h
  refine ⟨⟨fun i _ e _ h => (none_stands i e h).elim, ⟨by decide, by decide, ?_, ?_⟩,
    ⟨by decide, fun i e h => (none_stands i e h).elim⟩, ?_, ?_⟩, _, rfl⟩
  · exact fun i e h => (none_stands i e h).elim
  · exact fun i _ e _ h => (none_stands i e h).elim
  · exact fun d e h => (none_stands _ e h).elim
  · exact fun i e _ _ h => (none_stands i e h).elim

theorem test_hyps_SpaceLawKept : SpaceLaw ticking ∧ ∃ t, step ticking = .next t := by
  refine ⟨⟨?_, test_hyps_TableLawsKept.1.2.2.2, ?_, by decide +kernel⟩, _, rfl⟩
  · unfold PolicyLaw
    decide +kernel
  · intro d e h
    rw [entry_ticking] at h
    cases h

theorem test_hyps_MapLawsKept :
    (ReservedLaw ticking ∧ RollUpLaw ticking ∧ RootLaw ticking ∧ PathLaw ticking)
      ∧ ∃ t, step ticking = .next t := by
  refine ⟨⟨test_hyps_TableLawsKept.1.2.2.2, ?_,
    ⟨⟨Location.root, rfl, rfl, rfl, rfl, rfl, rfl⟩, rfl⟩, by unfold PathLaw; decide +kernel⟩,
    _, rfl⟩
  intro j l h
  have hl : l = Location.root := by
    cases j with
    | zero => exact (Option.some.inj h).symm
    | succ j => cases h
  subst hl
  exact ⟨(countEntries_reset _).symm, (countEntries_reset _).symm⟩

theorem test_hyps_SweepLawKept :
    (ReservedLaw ticking ∧ SweepLaw ticking) ∧ ∃ t, step ticking = .next t := by
  refine ⟨⟨test_hyps_TableLawsKept.1.2.2.2, ?_⟩, _, rfl⟩
  intro i e h
  rw [entry_ticking] at h
  cases h

theorem test_hyps_OneCommandLawKept : OneCommandLaw ticking ∧ ∃ t, step ticking = .next t :=
  ⟨⟨rfl, fun h => by cases h⟩, _, rfl⟩

theorem test_hyps_LinkLawKept : LinkLaw ticking ∧ ∃ t, step ticking = .next t := by
  refine ⟨⟨⟨List.Pairwise.nil, by decide, by decide, ?_, ?_, by decide, by decide⟩, ?_, ?_, ?_, ?_⟩,
    _, rfl⟩
  · exact fun x h => by cases h
  · exact fun a h => by cases h
  · exact fun h => by cases h
  · exact fun h => by cases h
  · exact fun h => by cases h
  · exact fun x h => by cases h

/-- The laws of the link with a POLL being sent. -/
theorem test_hyps_LinkLawKept_while_sending : LineLaw sendingPoll := by
  refine ⟨fun h => ?_, fun _ => ?_, fun _ => ?_, fun x h => ?_⟩
  · have h1 : sendingPoll.link.phase = .polling := by decide +kernel
    rw [h1] at h
    cases h
  · exact ⟨_, by rfl, by rfl, by rfl⟩
  · exact ⟨_, by rfl, by rfl⟩
  · have h1 : sendingPoll.link.exchange = some ⟨1, pollFrame (agentOne .online 0 false), .live,
        false⟩ := by rfl
    rw [h1] at h
    cases h
    exact ⟨fun _ _ => ⟨agentOne .online 0 false, by decide +kernel, by decide +kernel⟩,
      fun _ => .inl (by decide +kernel), fun h => by cases h⟩

end Sys2Proof.Tests
end

/-!
What a request can do to the table, with the group that an executed action comes from and the room
that a creation finds: the laws of the table and of its space are kept by each of these deeds.
-/

namespace Sys2Proof.Machine

/-! ## Deeds of a request on the table -/

/-- A deed that creates nothing: one standing entry updated, one index retired, or a change beside
the table. -/
inductive Work.Touch : Work → Work → Prop where
  | update (w : Work) (i : Fin 128) (e e' : Entry) (locs : List Location) (events : List Event)
      (found : w.entry i = some e)
      (key : e'.key = e.key) (seq : e'.seq = e.seq) (domain : e'.domain = e.domain)
      (logged : e'.logged = e.logged)
      (executed : e'.executed = e.executed
        ∨ ∃ esc, e'.executed = executedAction (w.group e.key.group) w.mode e.logged esc) :
      Work.Touch w { w.put i e' with locs := locs, events := events }
  | retire (w : Work) (i : Fin 128) : Work.Touch w (w.retireEntry i)
  | aside (w : Work) (locs : List Location) (spent space : Bool) :
      Work.Touch w { w with locs := locs, seqSpent := spent, space := space }

/-- A chain of deeds that create nothing. -/
abbrev Work.Touches : Work → Work → Prop := Relation.ReflTransGen Work.Touch

/-- The index suits a key: a reserved one for its TABLE FULL key, a general one for any other
(R5). -/
def Work.Place (i : Fin 128) (k : Key) : Prop :=
  (∃ d, i = tableFullIndex d ∧ k = tableFullKey d)
    ∨ (i.val < Config.generalSize ∧ ∀ d, k ≠ tableFullKey d)

/-- Any deed: a touch, a creation where its domain has usable room (R89), or a creation in the place
of an entry of its domain that is retired for it (R91). -/
inductive Work.Deed : Work → Work → Prop where
  | touch (w w' : Work) (h : Work.Touch w w') : Work.Deed w w'
  | create (w : Work) (r : Raise) (i : Fin 128) (free : w.entry i = none)
      (fresh : findKey w.slots r.key = none) (counter : w.seqNext ≤ Config.lastSequence)
      (place : Work.Place i r.key)
      (room : i.val < Config.generalSize →
        0 < usableFree w.slots w.reserve (w.group r.key.group).domain) :
      Work.Deed w (w.create r i)
  | displace (w w' : Work) (r : Raise) (i : Fin 128) (e : Entry) (found : w.entry i = some e)
      (domain : e.domain = (w.group r.key.group).domain)
      (retired : Work.Touches (w.retireEntry i) w') (free : w'.entry i = none)
      (fresh : findKey w'.slots r.key = none) (counter : w'.seqNext ≤ Config.lastSequence)
      (place : Work.Place i r.key) : Work.Deed w (w'.create r i)

/-- A chain of deeds. -/
abbrev Work.Deeds : Work → Work → Prop := Relation.ReflTransGen Work.Deed

theorem Work.deeds_of_touches {w w' : Work} (h : Work.Touches w w') : Work.Deeds w w' := by
  induction h with
  | refl => exact .refl
  | tail _ h ih => exact ih.tail (.touch _ _ h)

/-- An operation that touches is a deed. -/
theorem Work.touches_aside (w : Work) (locs : List Location) (spent space : Bool) :
    Work.Touches w { w with locs := locs, seqSpent := spent, space := space } :=
  .single (.aside w locs spent space)

/-! ## What no deed moves -/

theorem Work.Touch.sameTaking {w w' : Work} (h : Work.Touch w w') : Work.SameTaking w w' := by
  cases h with
  | update i e e' locs events => exact ⟨rfl, rfl, rfl, rfl⟩
  | retire i => exact Work.sameTaking_of_changes (Work.changes_of_eases (w.retireEntry_eases i))
  | aside locs spent space => exact ⟨rfl, rfl, rfl, rfl⟩

theorem Work.sameTaking_trans {w w' w'' : Work} (h : Work.SameTaking w w')
    (h' : Work.SameTaking w' w'') : Work.SameTaking w w'' :=
  ⟨h'.now.trans h.now, h'.mode.trans h.mode, h'.groups.trans h.groups, h'.reserve.trans h.reserve⟩

theorem Work.sameTaking_of_touches {w w' : Work} (h : Work.Touches w w') :
    Work.SameTaking w w' := by
  induction h with
  | refl => exact ⟨rfl, rfl, rfl, rfl⟩
  | tail _ h ih => exact Work.sameTaking_trans ih h.sameTaking

theorem Work.Deed.sameTaking {w w' : Work} (h : Work.Deed w w') : Work.SameTaking w w' := by
  cases h with
  | touch w' h => exact h.sameTaking
  | create r i => exact ⟨rfl, rfl, rfl, rfl⟩
  | displace w1 r i e found domain retired =>
    have h1 := Work.sameTaking_trans (Work.Touch.retire w i).sameTaking
      (Work.sameTaking_of_touches retired)
    exact ⟨h1.now, h1.mode, h1.groups, h1.reserve⟩

theorem Work.sameTaking_of_deeds {w w' : Work} (h : Work.Deeds w w') : Work.SameTaking w w' := by
  induction h with
  | refl => exact ⟨rfl, rfl, rfl, rfl⟩
  | tail _ h ih => exact Work.sameTaking_trans ih h.sameTaking

theorem Work.group_of_sameTaking {w w' : Work} (h : Work.SameTaking w w') (g : Byte) :
    w'.group g = w.group g := by
  unfold Work.group
  rw [h.groups]

theorem Work.Touch.seqNext {w w' : Work} (h : Work.Touch w w') : w'.seqNext = w.seqNext := by
  cases h with
  | update i e e' locs events => rfl
  | retire i => exact Work.seqNext_of_eases (w.retireEntry_eases i)
  | aside locs spent space => rfl

/-- Every field of an entry that a restore, an acknowledgement or a retirement leaves. -/
theorem Work.touches_of_put (w : Work) (i : Fin 128) (e e' : Entry) (locs : List Location)
    (found : w.entry i = some e) (key : e'.key = e.key) (seq : e'.seq = e.seq)
    (domain : e'.domain = e.domain) (logged : e'.logged = e.logged)
    (executed : e'.executed = e.executed) :
    Work.Touches w { w.put i e' with locs := locs } :=
  .single (.update w i e e' locs w.events found key seq domain logged (.inl executed))

/-! ## Retirement, restore, acknowledgement -/

theorem Work.restoreWith_touches (retire : Work → Fin 128 → Work)
    (hr : ∀ w i, Work.Touches w (retire w i)) (w : Work) (i : Fin 128) :
    Work.Touches w (w.restoreWith retire i).1 := by
  unfold Work.restoreWith
  cases h : w.entry i with
  | none => exact .refl
  | some e =>
    dsimp only
    split
    · exact .refl
    · split
      · exact touches_of_put w i e _ _ h rfl rfl rfl rfl rfl
      · exact hr w i
      · exact .refl

theorem Work.hysteresisOf_touches (w : Work) (d : Domain) : Work.Touches w (w.hysteresisOf d) := by
  unfold Work.hysteresisOf
  split
  · split
    · exact restoreWith_touches _ (fun w i => .single (.retire w i)) w _
    · exact .refl
  · exact .refl

theorem Work.hysteresis_touches (w : Work) : Work.Touches w w.hysteresis :=
  (hysteresisOf_touches w .unit).trans (hysteresisOf_touches _ .field)

/-- A retirement is the index freed, then the hysteresis check (R26). -/
theorem Work.retire_eq (w : Work) (i : Fin 128) (e : Entry) (h : w.entry i = some e) :
    w.retire i = (w.retireEntry i).hysteresis := by
  unfold Work.retire
  rw [h]

theorem Work.retire_touches (w : Work) (i : Fin 128) : Work.Touches w (w.retire i) := by
  cases h : w.entry i with
  | none =>
    have : w.retire i = w := by unfold Work.retire; rw [h]
    rw [this]
  | some e =>
    rw [Work.retire_eq w i e h]
    exact .head (.retire w i) (hysteresis_touches _)

theorem Work.restore_touches (w : Work) (k : Key) : Work.Touches w (w.restore k).1 := by
  unfold Work.restore
  split
  · exact .refl
  · exact restoreWith_touches _ retire_touches w _

theorem Work.ackEntry_touches (w : Work) (i : Fin 128) (e : Entry) (h : w.entry i = some e) :
    Work.Touches w (w.ackEntry i e) := by
  unfold Work.ackEntry
  split
  · exact touches_of_put w i e _ w.locs h rfl rfl rfl rfl rfl
  · exact .refl
  · split
    · exact .refl
    · exact retire_touches w i

theorem Work.foldl_touches (visit : Work → Fin 128 → Work)
    (h : ∀ w i, Work.Touches w (visit w i)) (l : List (Fin 128)) (w : Work) :
    Work.Touches w (l.foldl visit w) := by
  induction l generalizing w with
  | nil => exact .refl
  | cons i rest ih => exact (h w i).trans (ih _)

theorem Work.retireField_touches (w : Work) : Work.Touches w w.retireField := by
  refine foldl_touches _ (fun w i => ?_) _ w
  split
  · split
    · exact retire_touches w i
    · exact .refl
  · exact .refl

theorem Work.retireUnlatched_touches (w : Work) : Work.Touches w w.retireUnlatched := by
  refine foldl_touches _ (fun w i => ?_) _ w
  split
  · split
    · exact .refl
    · exact retire_touches w i
  · exact .refl

theorem Work.sweepVisits_touches (w : Work) (l : List (Fin 128)) :
    Work.Touches w (l.foldl Work.sweepVisit w) := by
  refine foldl_touches _ (fun w i => ?_) _ w
  unfold Work.sweepVisit
  split
  · split
    · exact retire_touches w i
    · exact .refl
  · exact .refl

theorem AckAll.visit_touches (mask : Byte) (a : AckAll) (i : Fin 128) :
    Work.Touches a.work (a.visit mask i).work := by
  unfold AckAll.visit
  split
  · exact .refl
  · next e he =>
    split
    · exact Work.ackEntry_touches _ _ _ he
    · exact .refl

theorem ackAll_touches (mask : Byte) (w : Work) : Work.Touches w (ackAll mask w).work := by
  unfold ackAll
  suffices h : ∀ (l : List (Fin 128)) (a : AckAll),
      Work.Touches a.work (l.foldl (AckAll.visit mask) a).work from h indices ⟨w, 0, 0⟩
  intro l
  induction l with
  | nil => exact fun a => .refl
  | cons i rest ih => exact fun a => (AckAll.visit_touches mask a i).trans (ih _)

/-! ## Raises -/

theorem Work.repeatRaise_touches (w : Work) (r : Raise) (i : Fin 128) (e : Entry)
    (h : w.entry i = some e) : Work.Touches w (w.repeatRaise r i e) := by
  obtain ⟨key, seq, anchor, domain, logged, latching, executed, mark, state⟩ :=
    Entry.withDetail_fields (e.touch r w.now (burstUpdate (w.group e.key.group) w.now e)) r
  unfold Work.repeatRaise
  dsimp only
  split
  · exact .single (.update w i e _ w.locs _ h key seq domain logged (.inr ⟨true, rfl⟩))
  · exact touches_of_put w i e _ w.locs h key seq domain logged executed

theorem Work.reactivateRaise_touches (w : Work) (r : Raise) (i : Fin 128) (e : Entry)
    (h : w.entry i = some e) : Work.Touches w (w.reactivateRaise r i e) := by
  obtain ⟨key, seq, anchor, domain, logged, latching, executed, mark, state⟩ :=
    Entry.withDetail_fields (e.touch r w.now (burstUpdate (w.group e.key.group) w.now e)) r
  exact .single (.update w i e _ _ _ h key seq domain logged (.inr ⟨_, rfl⟩))

theorem Work.raiseStanding_touches (w : Work) (r : Raise) (i : Fin 128) (e : Entry)
    (h : w.entry i = some e) : Work.Touches w (w.raiseStanding r i e).1 := by
  unfold Work.raiseStanding
  split
  · exact repeatRaise_touches w r i e h
  · split
    · exact touches_of_put w i e _ w.locs h rfl rfl rfl rfl rfl
    · exact reactivateRaise_touches w r i e h

/-- A creation at a reserved index is a deed: no room is asked for. -/
theorem Work.createReserved_deeds (w : Work) (r : Raise) (d : Domain) (hw : w.Reserved)
    (fresh : findKey w.slots r.key = none) (counter : w.seqNext ≤ Config.lastSequence)
    (key : r.key = tableFullKey d) : Work.Deeds w (w.create r (tableFullIndex d)) :=
  .single (.create w r _ (hw.free d (key ▸ fresh)) fresh counter (.inl ⟨d, rfl, key⟩)
    fun h => absurd h (tableFullIndex_reserved d))

theorem Work.raiseTableFull_deeds (w : Work) (d : Domain) (hw : w.Reserved) :
    Work.Deeds w (w.raiseTableFull d) := by
  unfold Work.raiseTableFull
  dsimp only
  split
  · split
    · next he => exact deeds_of_touches (raiseStanding_touches w _ _ _ he)
    · exact .refl
  · next fresh =>
    split
    · exact deeds_of_touches (touches_aside w w.locs true true)
    · exact createReserved_deeds w _ d hw fresh (by omega) rfl

theorem Work.refuseFull_deeds (w : Work) (d : Domain) (a : Nat) (hw : w.Reserved) :
    Work.Deeds w (w.refuseFull d a) := by
  have marked := touches_aside w (markAt w.locs d a true) w.seqSpent w.space
  have raised := raiseTableFull_deeds { w with locs := markAt w.locs d a true } d hw
  have spaced := touches_aside (({ w with locs := markAt w.locs d a true } : Work).raiseTableFull d)
    (({ w with locs := markAt w.locs d a true } : Work).raiseTableFull d).locs
    (({ w with locs := markAt w.locs d a true } : Work).raiseTableFull d).seqSpent true
  exact (deeds_of_touches marked).trans (raised.trans (deeds_of_touches spaced))

theorem Work.displace_deeds (w : Work) (r : Raise) (i : Fin 128) (e : Entry)
    (found : w.entry i = some e) (domain : e.domain = (w.group r.key.group).domain)
    (fresh : findKey w.slots r.key = none) (counter : w.seqNext ≤ Config.lastSequence)
    (place : Work.Place i r.key) : Work.Deeds w (w.displace r i) := by
  have eases := retire_eases w i
  have retired : Work.Touches (w.retireEntry i) (w.retire i) := by
    rw [Work.retire_eq w i e found]
    exact hysteresis_touches _
  have created : Work.Deed w ((w.retire i).create r i) :=
    .displace w _ r i e found domain retired (entry_retire w i) (fresh_of_eases eases _ fresh)
      (by rw [seqNext_of_eases eases]; exact counter) place
  exact (Relation.ReflTransGen.single created).tail (.touch _ _ (.aside _ _ _ true))

/-- A key that is no TABLE FULL key suits every general index. -/
theorem Work.place_general (i : Fin 128) (k : Key) (h : i.val < Config.generalSize)
    (hu : k ≠ tableFullKey .unit) (hf : k ≠ tableFullKey .field) : Work.Place i k :=
  .inr ⟨h, fun d => by cases d <;> assumption⟩

theorem Work.createInRoom_deeds (w : Work) (r : Raise) (hw : w.Reserved)
    (fresh : findKey w.slots r.key = none) (counter : w.seqNext ≤ Config.lastSequence) :
    Work.Deeds w (w.createInRoom r).1 := by
  unfold Work.createInRoom
  dsimp only
  split
  · next key => exact createReserved_deeds w r .unit hw fresh counter key
  · next hu =>
    split
    · next key => exact createReserved_deeds w r .field hw fresh counter key
    · next hf =>
      split
      · next i hi =>
        split at hi
        · next room =>
          obtain ⟨general, free⟩ := lowestFree_some _ _ hi
          exact .single (.create w r i free fresh counter (place_general i _ general hu hf)
            fun _ => room)
        · cases hi
      · split
        · next i n ho =>
          obtain ⟨_, e, he, hp, _⟩ := oldest_some _ _ _ _ _ ho
          simp only [displaceable, Bool.and_eq_true, decide_eq_true_eq, beq_iff_eq] at hp
          obtain ⟨⟨⟨⟨general, domain⟩, _⟩, _⟩, _⟩ := hp
          exact displace_deeds w r i e he domain fresh counter (place_general i _ general hu hf)
        · exact refuseFull_deeds w _ _ hw

/-- Everything a raise can do (R17 from step 5). -/
theorem Work.raise_deeds (w : Work) (r : Raise) (hw : w.Reserved) :
    Work.Deeds w (w.raise r).1 := by
  unfold Work.raise
  split
  · split
    · next he => exact deeds_of_touches (raiseStanding_touches w r _ _ he)
    · exact .refl
  · next fresh =>
    split
    · exact deeds_of_touches (touches_aside w w.locs true true)
    · exact createInRoom_deeds w r hw fresh (by omega)

/-! ## The table after a deed -/

/-- A creation fills its index and leaves every other. -/
theorem Work.entry_create (w : Work) (r : Raise) (i j : Fin 128) :
    (w.create r i).entry j = if i = j then some (w.newEntry r) else w.entry j :=
  Work.entry_put w i j (w.newEntry r)

theorem Work.slots_create (w : Work) (r : Raise) (i j : Fin 128) :
    (w.create r i).slots[j]
      = if i = j then ⟨w.slots[i].gen, some (w.newEntry r)⟩ else w.slots[j] :=
  slots_set_get w.slots i j _

/-- An entry standing after a touch stood before, with the same key, sequence, domain and logged
action; its executed action is the old one or computed by its group (R36). -/
theorem Work.Touch.entry_before {w w' : Work} (h : Work.Touch w w') (j : Fin 128) (f : Entry)
    (hf : w'.entry j = some f) : ∃ e, w.entry j = some e ∧ f.key = e.key ∧ f.seq = e.seq
      ∧ f.domain = e.domain ∧ f.logged = e.logged
      ∧ (f.executed = e.executed
        ∨ ∃ esc, f.executed = executedAction (w.group e.key.group) w.mode e.logged esc) := by
  cases h with
  | update i e e' locs events found key seq domain logged executed =>
    have he : (w.put i e').entry j = some f := hf
    rw [Work.entry_put] at he
    split at he
    · next hij =>
      cases hij
      cases he
      exact ⟨e, found, key, seq, domain, logged, executed⟩
    · exact ⟨f, he, rfl, rfl, rfl, rfl, .inl rfl⟩
  | retire i =>
    rw [Work.entry_retireEntry] at hf
    split at hf
    · cases hf
    · exact ⟨f, hf, rfl, rfl, rfl, rfl, .inl rfl⟩
  | aside locs spent space => exact ⟨f, hf, rfl, rfl, rfl, rfl, .inl rfl⟩

/-- A law of the table that touches and creations keep is kept by every deed. -/
theorem Work.Deed.keeps {P : Work → Prop} (touch : ∀ w w', Work.Touch w w' → P w → P w')
    (create : ∀ (w : Work) (r : Raise) (i : Fin 128), w.entry i = none →
      findKey w.slots r.key = none → w.seqNext ≤ Config.lastSequence → Work.Place i r.key → P w →
      P (w.create r i)) {w w' : Work} (h : Work.Deed w w') (hw : P w) : P w' := by
  cases h with
  | touch w' h => exact touch _ _ h hw
  | create r i free fresh counter place room => exact create w r i free fresh counter place hw
  | displace w1 r i e found domain retired free fresh counter place =>
    refine create w1 r i free fresh counter place ?_
    clear free fresh counter
    induction retired with
    | refl => exact touch _ _ (.retire w i) hw
    | tail _ h ih => exact touch _ _ h ih

/-- A law that every deed keeps is kept by a chain of deeds. -/
theorem Work.Deeds.keeps {P : Work → Prop} (deed : ∀ w w', Work.Deed w w' → P w → P w')
    {w w' : Work} (h : Work.Deeds w w') (hw : P w) : P w' := by
  induction h with
  | refl => exact hw
  | tail _ h ih => exact deed _ _ h ih

theorem Work.reserved_touch (w w' : Work) (h : Work.Touch w w') (hw : w.Reserved) :
    w'.Reserved := by
  obtain ⟨reserved, general⟩ := hw
  refine ⟨fun d f hf => ?_, fun j f d hj hf => ?_⟩
  · obtain ⟨e, he, key, _⟩ := h.entry_before _ f hf
    exact key.trans (reserved d e he)
  · obtain ⟨e, he, key, _⟩ := h.entry_before _ f hf
    exact key ▸ general j e d hj he

theorem Work.reserved_create (w : Work) (r : Raise) (i : Fin 128) (place : Work.Place i r.key)
    (hw : w.Reserved) : (w.create r i).Reserved := by
  obtain ⟨reserved, general⟩ := hw
  refine ⟨fun d f hf => ?_, fun j f d hj hf => ?_⟩
  · rw [Work.entry_create] at hf
    split at hf
    · next hi =>
      cases hf
      rcases place with ⟨d', hi', hk⟩ | ⟨hi', _⟩
      · exact hk.trans (congrArg tableFullKey (tableFullIndex_injective d' d (hi'.symm.trans hi)))
      · exact absurd (hi ▸ hi') (tableFullIndex_reserved d)
    · exact reserved d f hf
  · rw [Work.entry_create] at hf
    split at hf
    · next hi =>
      cases hi
      cases hf
      rcases place with ⟨d', hi', _⟩ | ⟨_, hk⟩
      · exact absurd (hi' ▸ hj) (tableFullIndex_reserved d')
      · exact hk d
    · exact general j f d hj hf

theorem Work.reserved_of_deeds {w w' : Work} (h : Work.Deeds w w') (hw : w.Reserved) :
    w'.Reserved :=
  h.keeps (P := Work.Reserved)
    (fun _ _ => Work.Deed.keeps Work.reserved_touch
      fun w r i _ _ _ place => Work.reserved_create w r i place) hw

/-! ## The requests of the link and of the verify timer -/

/-- A change of the map alone is a deed. -/
theorem Work.map_deeds (w : Work) (locs : List Location) : Work.Deeds w { w with locs := locs } :=
  deeds_of_touches (touches_aside w locs w.seqSpent w.space)

theorem Work.restore_deeds (w : Work) (k : Key) : Work.Deeds w (w.restore k).1 :=
  deeds_of_touches (restore_touches w k)

theorem Work.arriveKind_deeds (w : Work) (l : Location) (installed : Byte) (hw : w.Reserved) :
    Work.Deeds w (w.arriveKind l installed) := by
  unfold Work.arriveKind
  split
  · exact restore_deeds w _
  · exact raise_deeds w _ hw

theorem Work.arriveReturn_deeds (w : Work) (l : Location) (silent : Bool) (hw : w.Reserved) :
    Work.Deeds w (w.arriveReturn l silent) := by
  unfold Work.arriveReturn
  split
  · exact raise_deeds w _ hw
  · exact .refl

theorem Work.arrive_deeds (w : Work) (i : Nat) (l : Location) (installed : Byte)
    (hw : w.Reserved) : Work.Deeds w (w.arrive i l installed) := by
  have restored := ((map_deeds w (markAt (setPresence w.locs i
    (if kindMatches l installed then .present else .foreign)) .field i false)).trans
      (restore_deeds _ ⟨l.path, 1, 1⟩)).trans
      ((restore_deeds _ ⟨l.path, 1, 2⟩).trans (restore_deeds _ ⟨l.path, 2, 0⟩))
  have kind := restored.trans (arriveKind_deeds _ l installed (reserved_of_deeds restored hw))
  exact kind.trans (arriveReturn_deeds _ l _ (reserved_of_deeds kind hw))

theorem Work.depart_deeds (w : Work) (i : Nat) (p : LocPath) (code : Byte) (hw : w.Reserved) :
    Work.Deeds w (w.depart i p code) := by
  have restored := (map_deeds w (setPresence w.locs i .absent)).trans (restore_deeds _ ⟨p, 4, 0⟩)
  unfold Work.depart
  dsimp only
  split
  · exact restored
  · exact restored.trans (raise_deeds _ _ (reserved_of_deeds restored hw))

theorem Work.raiseSilent_deeds (w : Work) (paths : List LocPath) (hw : w.Reserved) :
    Work.Deeds w (w.raiseSilent paths) := by
  unfold Work.raiseSilent
  induction paths generalizing w with
  | nil => exact .refl
  | cons p rest ih =>
    have raised := raise_deeds w ⟨⟨p, 2, 0⟩, [], .part⟩ hw
    exact raised.trans (ih _ (reserved_of_deeds raised hw))

theorem Work.partLink_deeds (w : Work) (home : LocPath) (linkCode : Option Byte)
    (hw : w.Reserved) : Work.Deeds w (w.partLink home linkCode) := by
  unfold Work.partLink
  split
  · exact raise_deeds w _ hw
  · exact .refl

theorem Work.partWork_deeds (w : Work) (i : Nat) (home : LocPath) (linkCode : Option Byte)
    (lapse : Bool) (hw : w.Reserved) :
    Work.Deeds w ((w.partLink home linkCode).partLapse i home lapse) := by
  have link := partLink_deeds w home linkCode hw
  refine link.trans ?_
  unfold Work.partLapse
  split
  · exact depart_deeds _ _ _ _ (reserved_of_deeds link hw)
  · exact .refl

theorem Work.reportArrive_deeds (w : Work) (r : Report) (hw : w.Reserved) :
    Work.Deeds w (w.reportArrive r).1 := by
  unfold Work.reportArrive
  split
  · split
    · exact arrive_deeds w _ _ _ hw
    · exact .refl
  · exact raise_deeds w _ hw

theorem Work.reportDepart_deeds (w : Work) (r : Report) (hw : w.Reserved) :
    Work.Deeds w (w.reportDepart r).1 := by
  unfold Work.reportDepart
  split
  · exact depart_deeds w _ _ _ hw
  · exact restore_deeds w _

end Sys2Proof.Machine

/-!
Counts of the table over its indices, and the laws of the table at the work of a request: every deed
keeps the keys, the sequences, executed NOTICE beside logged NOTICE, and the bound of the FIELD
entries.
-/

namespace Sys2Proof.Machine

/-! ## Counting over the indices -/

theorem toList_eq_finRange (slots : Vector Slot 128) :
    slots.toList = (List.finRange 128).map fun i => slots[i] := by
  refine List.ext_getElem (by simp) fun n h1 h2 => ?_
  simp

theorem slotCounts_eq_holds (p : Entry → Bool) (sl : Slot) : slotCounts p sl = sl.holds p := rfl

theorem countEntries_eq_finRange (slots : Vector Slot 128) (p : Entry → Bool) :
    countEntries slots p = (List.finRange 128).countP fun i => slots[i].holds p := by
  rw [countEntries_eq, toList_eq_finRange, List.countP_map]
  rfl

theorem take_generalSize_finRange :
    (List.finRange 128).take Config.generalSize
      = (List.finRange 128).filter fun i => decide (i.val < Config.generalSize) := by
  decide

theorem freeCount_eq_finRange (slots : Vector Slot 128) :
    freeCount slots = (List.finRange 128).countP fun i =>
      slots[i].entry.isNone && decide (i.val < Config.generalSize) := by
  unfold freeCount
  rw [toList_eq_finRange, ← List.map_take, List.countP_map, take_generalSize_finRange,
    List.countP_filter]
  rfl

theorem holds_some {sl : Slot} {e : Entry} (p : Entry → Bool) (h : sl.entry = some e) :
    sl.holds p = p e := by
  unfold Slot.holds
  rw [h]

theorem holds_none {sl : Slot} (p : Entry → Bool) (h : sl.entry = none) : sl.holds p = false := by
  unfold Slot.holds
  rw [h]

theorem holds_iff (p : Entry → Bool) (sl : Slot) :
    sl.holds p = true ↔ ∃ e, sl.entry = some e ∧ p e = true := by
  cases h : sl.entry with
  | none => simp [holds_none p h]
  | some e => simp [holds_some p h]

/-- A count is at most another when every entry counted by the first has one, at the same index,
that the second counts. -/
theorem countEntries_mono {x y : Vector Slot 128} {p q : Entry → Bool}
    (h : ∀ (i : Fin 128) (e : Entry), x[i].entry = some e → p e = true →
      ∃ f, y[i].entry = some f ∧ q f = true) : countEntries x p ≤ countEntries y q := by
  rw [countEntries_eq_finRange, countEntries_eq_finRange]
  refine List.countP_mono_left fun i _ hi => ?_
  obtain ⟨e, he, hp⟩ := (holds_iff p _).mp hi
  exact (holds_iff q _).mpr (h i e he hp)

/-- Two counts of a list that exclude each other are together at most a third that contains both. -/
theorem countP_add_le {α : Type} (p q r : α → Bool) (l : List α)
    (hp : ∀ a ∈ l, p a = true → r a = true ∧ q a = false) (hq : ∀ a ∈ l, q a = true → r a = true) :
    l.countP p + l.countP q ≤ l.countP r := by
  induction l with
  | nil => simp
  | cons a l ih =>
    have tail := ih (fun b hb => hp b (List.mem_cons_of_mem a hb))
      fun b hb => hq b (List.mem_cons_of_mem a hb)
    have headP := hp a List.mem_cons_self
    have headQ := hq a List.mem_cons_self
    simp only [List.countP_cons]
    cases hpa : p a
    · cases hqa : q a
      · simp only [Bool.false_eq_true, if_false]; omega
      · simp only [headQ hqa, Bool.false_eq_true, if_false, if_true]; omega
    · simp only [headP hpa, Bool.false_eq_true, if_false, if_true]; omega

theorem countP_general : (List.finRange 128).countP (fun i => decide (i.val < Config.generalSize))
    = Config.generalSize := by
  rw [List.countP_eq_length_filter, ← take_generalSize_finRange, List.length_take,
    List.length_finRange]
  rfl

/-- An index that is not general is a reserved one (R5). -/
theorem general_or_reserved (i : Fin 128) :
    i.val < Config.generalSize ∨ ∃ d, i = tableFullIndex d := by
  by_cases h : i.val < Config.generalSize
  · exact .inl h
  · have hu : Config.generalSize = 126 := rfl
    rcases (by omega : i.val = 126 ∨ i.val = 127) with h | h
    · exact .inr ⟨.unit, Fin.ext h⟩
    · exact .inr ⟨.field, Fin.ext h⟩

/-- The standing FIELD entries and the FREE general ones share the general indices, where no
reserved index holds a FIELD entry. -/
theorem standing_add_freeCount (slots : Vector Slot 128)
    (h : ∀ (d : Domain) (e : Entry), slots[tableFullIndex d].entry = some e → e.domain = .unit) :
    standing slots .field + freeCount slots ≤ Config.generalSize := by
  unfold standing
  rw [countEntries_eq_finRange, freeCount_eq_finRange, ← countP_general]
  refine countP_add_le _ _ _ _ (fun i _ hi => ?_) fun i _ hi => ?_
  · obtain ⟨e, he, hd⟩ := (holds_iff _ _).mp hi
    rcases general_or_reserved i with general | ⟨d, rfl⟩
    · exact ⟨decide_eq_true general, by rw [he]; rfl⟩
    · rw [h d e he] at hd
      cases hd
  · exact (Bool.and_eq_true_iff.mp hi).2

/-! ## Standing entries after a deed -/

theorem Work.Touch.standing_le {w w' : Work} (h : Work.Touch w w') (d : Domain) :
    standing w'.slots d ≤ standing w.slots d :=
  countEntries_mono fun i f hf hd => by
    obtain ⟨e, he, _, _, domain, _⟩ := h.entry_before i f hf
    exact ⟨e, he, domain ▸ hd⟩

theorem Work.standing_le_of_touches {w w' : Work} (h : Work.Touches w w') (d : Domain) :
    standing w'.slots d ≤ standing w.slots d := by
  induction h with
  | refl => exact le_rfl
  | tail _ h ih => exact (h.standing_le d).trans ih

theorem Work.retireEntry_slots (w : Work) (i : Fin 128) (e : Entry) (h : w.entry i = some e) :
    (w.retireEntry i).slots = w.slots.set i.val ⟨w.slots[i].gen + 1, none⟩ i.isLt := by
  unfold Work.retireEntry
  rw [h]

/-- A retirement takes the entry out of the count of its domain. -/
theorem Work.standing_retireEntry (w : Work) (i : Fin 128) (e : Entry) (h : w.entry i = some e) :
    standing (w.retireEntry i).slots e.domain + 1 = standing w.slots e.domain := by
  have hc := countEntries_set w.slots i ⟨w.slots[i].gen + 1, none⟩ (·.domain == e.domain)
  rw [← Work.retireEntry_slots w i e h, slotCounts_eq_holds, slotCounts_eq_holds,
    holds_some _ h, holds_none _ rfl] at hc
  simpa [standing] using hc

theorem Work.newEntry_domain (w : Work) (r : Raise) :
    (w.newEntry r).domain = (w.group r.key.group).domain := rfl

/-- A creation in a FREE index adds its entry to the count of its domain alone. -/
theorem Work.standing_create (w : Work) (r : Raise) (i : Fin 128) (free : w.entry i = none)
    (d : Domain) : standing (w.create r i).slots d
      = standing w.slots d + if (w.group r.key.group).domain = d then 1 else 0 := by
  have hc := countEntries_set w.slots i { w.slots[i] with entry := some (w.newEntry r) }
    (·.domain == d)
  rw [slotCounts_eq_holds, slotCounts_eq_holds, holds_none _ free, holds_some _ rfl,
    Work.newEntry_domain] at hc
  simp only [beq_iff_eq, Bool.false_eq_true, if_false, Nat.add_zero] at hc
  exact hc

/-! ## Keys and sequences -/

/-- No two standing entries have the same key (R4). -/
def Work.Keyed (w : Work) : Prop :=
  ∀ (i j : Fin 128) (e f : Entry), w.entry i = some e → w.entry j = some f → e.key = f.key → i = j

theorem Work.keyed_touch (w w' : Work) (h : Work.Touch w w') (hw : w.Keyed) : w'.Keyed := by
  intro i j e f he hf hk
  obtain ⟨e0, he0, key, _⟩ := h.entry_before i e he
  obtain ⟨f0, hf0, key', _⟩ := h.entry_before j f hf
  exact hw i j e0 f0 he0 hf0 (by rw [← key, ← key', hk])

theorem Work.keyed_create (w : Work) (r : Raise) (i : Fin 128)
    (fresh : findKey w.slots r.key = none) (hw : w.Keyed) : (w.create r i).Keyed := by
  have new := (findKey_none _ _).mp fresh
  intro j k e f he hf hk
  rw [Work.entry_create] at he hf
  split at he
  · next hj =>
    cases he
    split at hf
    · next hk' => exact hj.symm.trans hk'
    · exact absurd hk.symm (new k f hf)
  · split at hf
    · cases hf
      exact absurd hk (new j e he)
    · exact hw j k e f he hf hk

/-- The sequences of standing entries are distinct and below the counter (R7). -/
def Work.Sequenced (w : Work) : Prop :=
  1 ≤ w.seqNext ∧ w.seqNext ≤ Config.lastSequence + 1
    ∧ (∀ (i : Fin 128) (e : Entry), w.entry i = some e → 1 ≤ e.seq ∧ e.seq < w.seqNext)
    ∧ ∀ (i j : Fin 128) (e f : Entry), w.entry i = some e → w.entry j = some f → e.seq = f.seq →
        i = j

theorem Work.sequenced_touch (w w' : Work) (h : Work.Touch w w') (hw : w.Sequenced) :
    w'.Sequenced := by
  obtain ⟨first, last, below, distinct⟩ := hw
  unfold Work.Sequenced
  rw [h.seqNext]
  refine ⟨first, last, fun i e he => ?_, fun i j e f he hf hs => ?_⟩
  · obtain ⟨e0, he0, _, seq, _⟩ := h.entry_before i e he
    exact seq ▸ below i e0 he0
  · obtain ⟨e0, he0, _, seq, _⟩ := h.entry_before i e he
    obtain ⟨f0, hf0, _, seq', _⟩ := h.entry_before j f hf
    exact distinct i j e0 f0 he0 hf0 (by rw [← seq, ← seq', hs])

theorem Work.sequenced_create (w : Work) (r : Raise) (i : Fin 128)
    (counter : w.seqNext ≤ Config.lastSequence) (hw : w.Sequenced) : (w.create r i).Sequenced := by
  obtain ⟨first, last, below, distinct⟩ := hw
  have next : (w.create r i).seqNext = w.seqNext + 1 := rfl
  unfold Work.Sequenced
  rw [next]
  refine ⟨by omega, by omega, fun j e he => ?_, fun j k e f he hf hs => ?_⟩
  · rw [Work.entry_create] at he
    split at he
    · cases he
      exact ⟨first, Nat.lt_succ_self _⟩
    · exact ⟨(below j e he).1, Nat.lt_succ_of_lt (below j e he).2⟩
  · rw [Work.entry_create] at he hf
    split at he
    · next hj =>
      cases he
      split at hf
      · next hk => exact hj.symm.trans hk
      · exact absurd hs.symm (below k f hf).2.ne
    · split at hf
      · cases hf
        exact absurd hs (below j e he).2.ne
      · exact distinct j k e f he hf hs

/-! ## Executed NOTICE -/

theorem groupOf_configured (groups : Vector GroupRecord 31)
    (h : ∀ g : Fin 31, groups[g].configured ≠ .notice) (g : Byte) :
    (groupOf groups g).configured ≠ .notice := by
  unfold groupOf
  rw [List.getD_eq_getElem?_getD]
  by_cases hg : g.toNat - 1 < 31
  · have := h ⟨g.toNat - 1, hg⟩
    simpa [hg] using this
  · have : groups.toList[g.toNat - 1]? = none := by simp; omega
    rw [this]
    decide

/-- With a configured action that is not NOTICE, the computation answers NOTICE exactly for a NOTICE
(R36). -/
theorem executedAction_eq_notice (g : GroupRecord) (mode : Mode) (logged : Action) (esc : Bool)
    (h : g.configured ≠ .notice) :
    executedAction g mode logged esc = .notice ↔ logged = .notice := by
  unfold executedAction
  by_cases hl : logged = .notice
  · simp [hl]
  · have base : baseAction g logged esc ≠ .notice := by
      unfold baseAction
      split
      · decide
      · split <;> assumption
    rw [if_neg hl]
    simp only [hl, iff_false]
    split
    · decide
    · exact base

/-- An executed action is NOTICE exactly when the logged one is; no group is configured NOTICE (R90,
R30). -/
def Work.Noticed (w : Work) : Prop :=
  (∀ g : Fin 31, w.groups[g].configured ≠ .notice)
    ∧ ∀ (i : Fin 128) (e : Entry), w.entry i = some e →
        (e.executed = .notice ↔ e.logged = .notice)

theorem Work.noticed_touch (w w' : Work) (h : Work.Touch w w') (hw : w.Noticed) : w'.Noticed := by
  obtain ⟨configured, notice⟩ := hw
  unfold Work.Noticed
  rw [h.sameTaking.groups]
  refine ⟨configured, fun i f hf => ?_⟩
  obtain ⟨e, he, _, _, _, logged, same | ⟨esc, computed⟩⟩ := h.entry_before i f hf
  · rw [same, logged]
    exact notice i e he
  · rw [computed, logged]
    exact executedAction_eq_notice _ _ _ _ (groupOf_configured _ configured _)

theorem Work.noticed_create (w : Work) (r : Raise) (i : Fin 128) (hw : w.Noticed) :
    (w.create r i).Noticed := by
  obtain ⟨configured, notice⟩ := hw
  refine ⟨configured, fun j f hf => ?_⟩
  rw [Work.entry_create] at hf
  split at hf
  · cases hf
    exact executedAction_eq_notice _ _ _ _ (groupOf_configured _ configured _)
  · exact notice j f hf

/-! ## The bound of the FIELD entries -/

/-- The FIELD entries stay within the room that UNIT_RESERVE leaves (R88), with what this rests on:
TABLE FULL is a UNIT condition, and the reserved indices hold nothing else (R5, R32). -/
structure Work.Spaced (w : Work) : Prop where
  tableFull : (w.group 6).domain = .unit
  reserved : w.Reserved
  unit : ∀ (d : Domain) (e : Entry), w.entry (tableFullIndex d) = some e → e.domain = .unit
  bound : standing w.slots .field ≤ Config.generalSize - w.reserve

theorem Work.spaced_touch (w w' : Work) (h : Work.Touch w w') (hw : w.Spaced) : w'.Spaced := by
  refine ⟨?_, Work.reserved_touch w w' h hw.reserved, fun d f hf => ?_, ?_⟩
  · exact (Work.group_of_sameTaking h.sameTaking 6) ▸ hw.tableFull
  · obtain ⟨e, he, _, _, domain, _⟩ := h.entry_before _ f hf
    exact domain.trans (hw.unit d e he)
  · rw [h.sameTaking.reserve]
    exact (h.standing_le .field).trans hw.bound

/-- A creation keeps the bound where one more FIELD entry has room. -/
theorem Work.spaced_create (w : Work) (r : Raise) (i : Fin 128) (free : w.entry i = none)
    (place : Work.Place i r.key) (hw : w.Spaced)
    (room : i.val < Config.generalSize → (w.group r.key.group).domain = .field →
      standing w.slots .field < Config.generalSize - w.reserve) : (w.create r i).Spaced := by
  have tableFull : ∀ d, i = tableFullIndex d → (w.group r.key.group).domain = .unit := by
    intro d hi
    rcases place with ⟨d', _, hk⟩ | ⟨hg, _⟩
    · rw [hk]
      exact hw.tableFull
    · exact absurd (hi ▸ hg) (tableFullIndex_reserved d)
  refine ⟨hw.tableFull, Work.reserved_create w r i place hw.reserved, fun d f hf => ?_, ?_⟩
  · rw [Work.entry_create] at hf
    split at hf
    · next hi =>
      cases hf
      exact tableFull d hi
    · exact hw.unit d f hf
  · rw [Work.standing_create w r i free]
    have bound := hw.bound
    show _ ≤ Config.generalSize - w.reserve
    split
    · next field =>
      rcases general_or_reserved i with general | ⟨d, hi⟩
      · exact room general field
      · rw [tableFull d hi] at field
        cases field
    · exact bound

theorem Work.spaced_of_touches {w w' : Work} (h : Work.Touches w w') (hw : w.Spaced) :
    w'.Spaced := by
  induction h with
  | refl => exact hw
  | tail _ h ih => exact Work.spaced_touch _ _ h ih

theorem Work.spaced_deed (w w' : Work) (h : Work.Deed w w') (hw : w.Spaced) : w'.Spaced := by
  cases h with
  | touch w' h => exact Work.spaced_touch w w' h hw
  | create r i free fresh counter place room =>
    refine Work.spaced_create w r i free place hw fun general field => ?_
    have usable : 0 < freeCount w.slots - w.reserve := by
      have := room general
      rwa [field] at this
    have shared := standing_add_freeCount w.slots hw.unit
    omega
  | displace w1 r i e found domain retired free fresh counter place =>
    have touched := Relation.ReflTransGen.head (Work.Touch.retire w i) retired
    have taking := Work.sameTaking_of_touches touched
    refine Work.spaced_create w1 r i free place (Work.spaced_of_touches touched hw)
      fun _ field => ?_
    rw [Work.group_of_sameTaking taking, ← domain] at field
    have gone := Work.standing_retireEntry w i e found
    have less := Work.standing_le_of_touches retired .field
    have bound := hw.bound
    rw [taking.reserve]
    rw [field] at gone
    omega

theorem Work.spaced_of_deeds {w w' : Work} (h : Work.Deeds w w') (hw : w.Spaced) : w'.Spaced :=
  h.keeps Work.spaced_deed hw

end Sys2Proof.Machine

/-!
What each step can do to the table, the groups, UNIT_RESERVE and the counts shown: a chain of few
kinds of move, found once for every row, so that a law kept by each kind of move is kept by every
step.
-/

namespace Sys2Proof.Machine

/-! ## Moves of the state -/

/-- The slot with its entry relabelled. -/
def Slot.relabel (h : Entry → Entry) (sl : Slot) : Slot := { sl with entry := sl.entry.map h }

/-- The relabelling moves an entry's marks, anchor and state alone. -/
structure Entry.Label (h : Entry → Entry) : Prop where
  key : ∀ e, (h e).key = e.key
  seq : ∀ e, (h e).seq = e.seq
  domain : ∀ e, (h e).domain = e.domain
  logged : ∀ e, (h e).logged = e.logged
  executed : ∀ e, (h e).executed = e.executed

/-- The parts of the state that the laws of the table speak of, and the queue, are the same. -/
structure SameTable (s t : State) : Prop where
  slots : t.engine.slots = s.engine.slots
  seqNext : t.engine.seqNext = s.engine.seqNext
  groups : t.groups = s.groups
  reserve : t.limits.reserve = s.limits.reserve
  counts : t.window.counts = s.window.counts
  fatal : t.release.fatalCopy = s.release.fatalCopy
  state : t.topo.state = s.topo.state
  pending : t.pending = s.pending

theorem SameTable.trans {s u t : State} (h : SameTable s u) (h' : SameTable u t) :
    SameTable s t :=
  ⟨h'.slots.trans h.slots, h'.seqNext.trans h.seqNext, h'.groups.trans h.groups,
    h'.reserve.trans h.reserve, h'.counts.trans h.counts, h'.fatal.trans h.fatal,
    h'.state.trans h.state, h'.pending.trans h.pending⟩

/-- What only a command, a request or cold reset moves: the table and what the engine holds, the
groups, the limits, the release state, the counts shown, the command at work, and the queue. -/
structure SameCore (s t : State) : Prop where
  engine : t.engine = s.engine
  groups : t.groups = s.groups
  limits : t.limits = s.limits
  release : t.release = s.release
  state : t.topo.state = s.topo.state
  cmd : t.window.cmd = s.window.cmd
  cmdState : t.window.cmdState = s.window.cmdState
  counts : t.window.counts = s.window.counts
  argCopy : t.window.argCopy = s.window.argCopy
  waiting : t.window.waiting = s.window.waiting
  restart : t.window.restart = s.window.restart
  pending : t.pending = s.pending

theorem SameCore.refl (s : State) : SameCore s s := by constructor <;> rfl

theorem SameCore.trans {s u t : State} (h : SameCore s u) (h' : SameCore u t) : SameCore s t :=
  ⟨h'.engine.trans h.engine, h'.groups.trans h.groups, h'.limits.trans h.limits,
    h'.release.trans h.release, h'.state.trans h.state, h'.cmd.trans h.cmd,
    h'.cmdState.trans h.cmdState, h'.counts.trans h.counts, h'.argCopy.trans h.argCopy,
    h'.waiting.trans h.waiting, h'.restart.trans h.restart, h'.pending.trans h.pending⟩

theorem SameCore.sameTable {s t : State} (h : SameCore s t) : SameTable s t :=
  ⟨congrArg Engine.slots h.engine, congrArg Engine.seqNext h.engine, h.groups,
    congrArg Limits.reserve h.limits, h.counts, congrArg ReleaseControl.fatalCopy h.release,
    h.state, h.pending⟩

/-- The counts and FATAL_HELD shown are those of the table (R16). -/
structure State.Shows (t : State) : Prop where
  counts : t.window.counts = Counts.of t.engine.slots
  fatal : t.release.fatalCopy = fatalHeld t.engine.slots

/-- One move of the state, by what it does to the table, the groups and UNIT_RESERVE: nothing; the
work of a request, relabelled, then shown or inside a commit; new limits and the hysteresis check
after them (R100); a group record (R44); cold reset. -/
inductive Move (s t : State) : Prop where
  | same (h : SameTable s t)
  | worked (w : Work) (h : Entry → Entry) (label : Entry.Label h)
      (deeds : (taking s).Reserved → Work.Deeds (taking s) w)
      (slots : t.engine.slots = w.slots.map (Slot.relabel h))
      (seqNext : t.engine.seqNext = w.seqNext)
      (groups : t.groups = s.groups) (reserve : t.limits.reserve = s.limits.reserve)
      (shows : t.topo.state = .committing ∨ t.Shows) (pending : t.pending = s.pending)
  | limited (w : Work) (touches : Work.Touches { taking s with reserve := t.limits.reserve } w)
      (slots : t.engine.slots = w.slots) (seqNext : t.engine.seqNext = w.seqNext)
      (groups : t.groups = s.groups)
      (bound : standing s.engine.slots .field ≤ Config.generalSize - t.limits.reserve)
      (shows : t.Shows) (pending : t.pending = s.pending)
  | grouped (g : Byte) (new : GroupRecord) (number : groupNumberOk g = true)
      (fixed : fixedFieldsAgree g (groupOf s.groups g) new = true)
      (configured : new.configured ≠ .notice)
      (groups : t.groups = s.groups.setIfInBounds (g.toNat - 1) new)
      (rest : SameTable s { t with groups := s.groups })
  | reset (engine : t.engine = State.reset.engine) (groups : t.groups = State.reset.groups)
      (limits : t.limits = State.reset.limits) (shows : t.Shows) (pending : t.pending = s.pending)

/-- A chain of moves. -/
abbrev Moves : State → State → Prop := Relation.ReflTransGen Move

theorem Move.core {s t : State} (h : SameCore s t) : Move s t := .same h.sameTable

theorem Moves.of_core {s t : State} (h : SameCore s t) : Moves s t := .single (.core h)

theorem Moves.of_same {s t : State} (h : SameTable s t) : Moves s t := .single (.same h)

theorem Move.pending {s t : State} (h : Move s t) : t.pending = s.pending := by
  cases h with
  | same h => exact h.pending
  | worked w h label deeds slots seqNext groups reserve shows pending => exact pending
  | limited w touches slots seqNext groups bound shows pending => exact pending
  | grouped g new number fixed configured groups rest => exact rest.pending
  | reset engine groups limits shows pending => exact pending

theorem Moves.pending {s t : State} (h : Moves s t) : t.pending = s.pending := by
  induction h with
  | refl => rfl
  | tail _ h ih => exact h.pending.trans ih

/-! ## The hand-off -/

theorem ReleaseControl.handOff_fatalCopy (r : ReleaseControl) (fatal : Nat) :
    (r.handOff fatal).fatalCopy = fatal := by
  unfold ReleaseControl.handOff
  split
  · next h => exact h.symm
  · split
    · next h => exact h.symm
    · rfl

theorem handCounts_shows (s : State) : (handCounts s).Shows :=
  ⟨rfl, ReleaseControl.handOff_fatalCopy _ _⟩

theorem handOff_shows (s : State) (w : Work) : (handOff s w).Shows := handCounts_shows _

theorem Slot.relabel_id : Slot.relabel id = id := by
  funext sl
  cases sl
  simp [Slot.relabel]

theorem Entry.label_id : Entry.Label id :=
  ⟨fun _ => rfl, fun _ => rfl, fun _ => rfl, fun _ => rfl, fun _ => rfl⟩

theorem slots_relabel_id (slots : Vector Slot 128) : slots = slots.map (Slot.relabel id) := by
  rw [Slot.relabel_id, Vector.map_id]

/-- A request whose work is a chain of deeds, handed off (R16). -/
theorem handOff_move (s : State) (w : Work)
    (deeds : (taking s).Reserved → Work.Deeds (taking s) w) : Move s (handOff s w) :=
  .worked w id Entry.label_id deeds (slots_relabel_id _) rfl rfl rfl (.inr (handOff_shows s w)) rfl

theorem handOff_moves (s : State) (w : Work)
    (deeds : (taking s).Reserved → Work.Deeds (taking s) w) : Moves s (handOff s w) :=
  .single (handOff_move s w deeds)

theorem handOff_touches (s : State) (w : Work) (touches : Work.Touches (taking s) w) :
    Moves s (handOff s w) :=
  handOff_moves s w fun _ => Work.deeds_of_touches touches

/-! ## Operations that leave the table -/

theorem SameTable.refl (s : State) : SameTable s s := by constructor <;> rfl

theorem setCause_core (s : State) (c : Byte) : SameCore s (setCause s c) := by constructor <;> rfl

theorem refuseOverrun_core (s : State) : SameCore s (refuseOverrun s) := by constructor <;> rfl

theorem csnRise_core (s : State) : SameCore s (csnRise s) := by constructor <;> rfl

theorem takeCommand_same (code : Byte) (s : State) : SameTable s (takeCommand code s) := by
  constructor <;> rfl

theorem complete_same (result : Byte) (response : List Byte) (s : State) :
    SameTable s (complete result response s) := by constructor <;> rfl

theorem granted_same (src : Source) (s : State) : SameTable s (granted src s) := by
  constructor <;> rfl

theorem setCursor_same (n : Byte) (c : Cursor) (s : State) : SameTable s (setCursor n c s) := by
  constructor <;> rfl

theorem expire_core (s : State) : SameCore s (expire s) := by constructor <;> rfl

theorem expireIfDue_core (s : State) : SameCore s (expireIfDue s) := by
  unfold expireIfDue
  split
  · exact expire_core s
  · exact .refl s

theorem withAgent_core (a : Byte) (f : Agent → Agent) (s : State) :
    SameCore s (withAgent a f s) := by constructor <;> rfl

theorem enqueue_core (a : Byte) (e : LinkEntry) (s : State) : SameCore s (enqueue a e s) := by
  constructor <;> rfl

theorem dequeue_core (a : Byte) (s : State) : SameCore s (dequeue a s) := by constructor <;> rfl

theorem answerReport_core (r : Report) (v : Verdict) (s : State) :
    SameCore s (answerReport r v s) := by constructor <;> rfl

theorem link_core (s : State) (l : Link) : SameCore s { s with link := l } := by
  constructor <;> rfl

theorem comeToNext_core (s : State) : SameCore s (comeToNext s) := by
  obtain ⟨phase, position, h⟩ := comeToNext_changes s
  rw [h]
  exact link_core s _

theorem endExchange_core (s : State) : SameCore s (endExchange s) := by
  obtain ⟨phase, position, h⟩ := endExchange_changes s
  rw [h]
  exact link_core s _

/-! ## Commands -/

/-- A command moves the state as its owner does, or not at all. -/
theorem giveCommand_moves (code : Byte) (owner : State → State) (s : State)
    (h : ∀ u, Moves u (owner u)) : Moves s (giveCommand code owner s) := by
  unfold giveCommand
  split
  · exact .of_core (csnRise_core s)
  · split
    · exact .of_core ((csnRise_core s).trans (refuseOverrun_core _))
    · exact .head (.same ((csnRise_core s).sameTable.trans (takeCommand_same code _))) (h _)

theorem waiting_same (s : State) (b : Bool) : SameTable s { s with window.waiting := b } := by
  constructor <;> rfl

/-- A window request at its grant: its work, after the grant's own marks. -/
theorem grantedWork_moves (work : State → State) (s : State) (h : ∀ u, Moves u (work u)) :
    Moves s (work { granted .window s with window.waiting := false }) :=
  .head (.same ((granted_same .window s).trans (waiting_same _ false))) (h _)

theorem presentRequest_moves (engine : EngineAt) (work : State → State) (s : State)
    (h : ∀ u, Moves u (work u)) : Moves s (presentRequest engine work s) := by
  unfold presentRequest
  dsimp only
  split
  · exact .head (.same (waiting_same s true)) (grantedWork_moves work _ h)
  · exact .of_same (waiting_same s true)

theorem request_moves (code : Byte) (engine : EngineAt) (work : State → State) (s : State)
    (h : ∀ u, Moves u (work u)) : Moves s (giveCommand code (presentRequest engine work) s) :=
  giveCommand_moves code _ s fun u => presentRequest_moves engine work u h

/-- A command completed on a state that moves leave. -/
theorem Moves.complete {s u : State} (h : Moves s u) (result : Byte) (response : List Byte) :
    Moves s (complete result response u) :=
  h.tail (.same (complete_same result response u))

theorem completed_moves (result : Byte) (response : List Byte) (s : State) :
    Moves s (complete result response s) := .of_same (complete_same result response s)

/-! ### Acknowledging and clearing -/

theorem handleEntry_some (slots : Vector Slot 128) (index gen : Byte) (i : Fin 128) (e : Entry)
    (h : handleEntry slots index gen = some (i, e)) :
    i.val = index.toNat ∧ slots[i].entry = some e ∧ slots[i].gen = gen := by
  unfold handleEntry at h
  split at h
  · next hi =>
    split at h
    · next f hf =>
      split at h
      · next hg =>
        cases h
        exact ⟨rfl, hf, hg⟩
      · cases h
    · cases h
  · cases h

theorem workAck_moves (s : State) : Moves s (workAck s) := by
  unfold workAck
  dsimp only
  split
  · exact completed_moves _ _ s
  · split
    · exact completed_moves _ _ s
    · next i e h =>
      obtain ⟨_, found, _⟩ := handleEntry_some _ _ _ _ _ h
      exact (handOff_touches s _ (Work.ackEntry_touches (taking s) i e found)).complete _ _

theorem workAckAll_moves (s : State) : Moves s (workAckAll s) := by
  unfold workAckAll
  dsimp only
  split
  · exact (handOff_touches s _ (ackAll_touches _ (taking s))).complete _ _
  · exact completed_moves _ _ s

theorem workClearDomain_moves (s : State) : Moves s (workClearDomain s) := by
  unfold workClearDomain
  split
  · exact completed_moves _ _ s
  · exact .of_same (waiting_same s true)

/-- The mark that the start of a sweep sets (R176). -/
def Entry.markFor (d : Domain) (bound : Nat) (e : Entry) : Entry :=
  if sweepTakes d bound e then { e with sweepMark := true } else e

theorem Entry.label_markFor (d : Domain) (bound : Nat) : Entry.Label (Entry.markFor d bound) := by
  refine ⟨fun e => ?_, fun e => ?_, fun e => ?_, fun e => ?_, fun e => ?_⟩ <;>
    (unfold Entry.markFor; split <;> rfl)

theorem startSweepOf_moves (d : Domain) (s : State) : Moves s (startSweepOf d s) :=
  .single (.worked (taking s) (Entry.markFor d (s.engine.seqNext - 1)) (Entry.label_markFor d _)
    (fun _ => .refl) rfl rfl rfl rfl (.inr ⟨rfl, ReleaseControl.handOff_fatalCopy _ _⟩) rfl)

theorem workSweepStart_moves (s : State) : Moves s (workSweepStart s) := by
  unfold workSweepStart
  split
  · exact .refl
  · exact startSweepOf_moves _ s

theorem sweep_same (s : State) (sw : Option Sweep) (src : Source) :
    SameTable s { s with engine.sweep := sw, engine.lastGranted := src } := by constructor <;> rfl

theorem workSweepStep_moves (sw : Sweep) (s : State) : Moves s (workSweepStep sw s) := by
  have visits := handOff_touches s _ (Work.sweepVisits_touches (taking s) (stepIndices sw.next))
  unfold workSweepStep
  dsimp only
  split
  · unfold endSweep
    exact Moves.complete (visits.tail (.same (sweep_same _ none .window))) _ _
  · exact visits.tail (.same (sweep_same _ _ s.engine.lastGranted))

theorem workClearSummary_moves (s : State) : Moves s (workClearSummary s) :=
  .of_same (by constructor <;> rfl)

/-! ### The controller's own conditions -/

theorem workRaiseApp_moves (s : State) : Moves s (workRaiseApp s) := by
  unfold workRaiseApp
  dsimp only
  split
  · exact (handOff_moves s _ fun hw => Work.raise_deeds (taking s) _ hw).complete _ _
  · exact completed_moves _ _ s

theorem workRestoreApp_moves (s : State) : Moves s (workRestoreApp s) := by
  unfold workRestoreApp
  dsimp only
  split
  · exact (handOff_touches s _ (Work.restore_touches (taking s) _)).complete _ _
  · exact completed_moves _ _ s

/-! ### WARM-RESTART -/

/-- The mark that WARM-RESTART clears (R29). -/
def Entry.unmark (e : Entry) : Entry := { e with sweepMark := false }

theorem Slot.unmark_eq : Slot.unmark = Slot.relabel Entry.unmark := rfl

theorem Entry.label_unmark : Entry.Label Entry.unmark := by constructor <;> exact fun _ => rfl

theorem restartOwners_limits (s : State) : (restartOwners s).limits = s.limits := by
  unfold restartOwners restartVerify expireIfDue
  dsimp only
  split <;> split <;> rfl

theorem restartOwners_groups (s : State) : (restartOwners s).groups = s.groups := by
  unfold restartOwners restartVerify expireIfDue
  dsimp only
  split <;> split <;> rfl

theorem restartOwners_pending (s : State) : (restartOwners s).pending = s.pending := by
  unfold restartOwners restartVerify expireIfDue
  dsimp only
  split <;> split <;> rfl

theorem workWarmRestart_moves (s : State) : Moves s (workWarmRestart s) := by
  have touches := Work.retireUnlatched_touches (taking s)
  unfold workWarmRestart Work.warmRestart
  generalize (taking s).retireUnlatched = w at touches
  exact .single (.worked w Entry.unmark Entry.label_unmark
    (fun _ => Work.deeds_of_touches touches) rfl rfl
    (restartOwners_groups s) (congrArg Limits.reserve (restartOwners_limits s))
    (.inr ⟨rfl, ReleaseControl.handOff_fatalCopy _ _⟩) (restartOwners_pending s))

theorem clearCauses_same (r : Restart) (s : State) : SameTable s (clearCauses r s) := by
  constructor <;> rfl

theorem restart_same (s : State) (r : Option Restart) :
    SameTable s { s with window.restart := r } := by
  constructor <;> rfl

theorem finishRestart_moves (r : Restart) (s : State) : Moves s (finishRestart r s) := by
  unfold finishRestart
  dsimp only
  refine Moves.complete (.of_same (SameTable.trans ?_ (restart_same _ none))) _ _
  split
  · exact .refl s
  · exact clearCauses_same r s

/-! ### Reading -/

theorem workLookup_moves (s : State) : Moves s (workLookup s) := by
  unfold workLookup
  dsimp only
  split
  · exact completed_moves _ _ s
  · exact completed_moves _ _ s

theorem workGet_moves (s : State) : Moves s (workGet s) := by
  unfold workGet
  split
  · exact completed_moves _ _ s
  · split
    · exact completed_moves _ _ s
    · exact completed_moves _ _ s

theorem cursor_moves (n : Byte) (c : Cursor) (result : Byte) (response : List Byte) (s : State) :
    Moves s (complete result response (setCursor n c s)) :=
  Moves.complete (.of_same (setCursor_same n c s)) _ _

theorem workListOpen_moves (s : State) : Moves s (workListOpen s) := by
  unfold workListOpen
  split
  · exact cursor_moves _ _ _ _ s
  · exact completed_moves _ _ s

theorem nextMatch_moves (n : Byte) (c : Cursor) (s : State) : Moves s (nextMatch n c s) := by
  unfold nextMatch
  split
  · split
    · exact cursor_moves _ _ _ _ s
    · exact .refl
  · exact cursor_moves _ _ _ _ s

theorem workListNext_moves (s : State) : Moves s (workListNext s) := by
  unfold workListNext
  dsimp only
  split
  · exact completed_moves _ _ s
  · split
    · exact completed_moves _ _ s
    · exact nextMatch_moves _ _ s
    · exact completed_moves _ _ s

theorem workListClose_moves (s : State) : Moves s (workListClose s) := by
  unfold workListClose
  dsimp only
  split
  · exact completed_moves _ _ s
  · exact cursor_moves _ _ _ _ s

theorem workAgentInfo_moves (s : State) : Moves s (workAgentInfo s) := by
  unfold workAgentInfo
  dsimp only
  split
  · exact completed_moves _ _ s
  · split
    · exact completed_moves _ _ s
    · exact completed_moves _ _ s

/-! ### Configuration, staging and release -/

theorem Action.configuredOfByte_ne_notice (b : Byte) (a : Action)
    (h : Action.configuredOfByte b = some a) : a ≠ .notice := by
  unfold Action.configuredOfByte at h
  split at h
  · cases h; decide
  · split at h
    · cases h; decide
    · cases h

theorem groupArgument_configured (w : Window) (new : GroupRecord)
    (h : w.groupArgument = some new) : new.configured ≠ .notice := by
  unfold Window.groupArgument at h
  simp only [Option.bind_eq_bind, Option.bind_eq_some_iff] at h
  obtain ⟨enabled, _, domain, _, logged, _, configurable, _, configured, hc, runDemoted, _,
    latching,
    _, momentary, _, h⟩ := h
  split at h
  · cases h
    exact Action.configuredOfByte_ne_notice _ _ hc
  · cases h

theorem workGroupSet_moves (s : State) : Moves s (workGroupSet s) := by
  unfold workGroupSet
  dsimp only
  split
  · exact completed_moves _ _ s
  · split
    · exact completed_moves _ _ s
    · next number =>
      split
      · exact completed_moves _ _ s
      · next new h =>
        split
        · next fixed =>
          exact .single (.grouped _ new (by simpa using number) fixed
            (groupArgument_configured _ new h) rfl (by constructor <;> rfl))
        · exact completed_moves _ _ s

/-- New limits are written with a bound that the standing FIELD entries keep (R99). -/
theorem limitsCheck_bound (s : State) (h : limitsCheck s = Result.ok) :
    standing s.engine.slots .field ≤ Config.generalSize - (s.window.argAt 0).toNat := by
  unfold limitsCheck at h
  split at h
  · cases h
  · split at h
    · cases h
    · split at h
      · cases h
      · next bound => exact Nat.not_lt.mp bound

theorem writeLimits_touches (l : Limits) (s : State) :
    Work.Touches { taking s with reserve := l.reserve }
      (if l.reserve = s.limits.reserve then taking { s with limits := l }
        else (taking { s with limits := l }).hysteresisOf .field) := by
  split
  · exact .refl
  · exact Work.hysteresisOf_touches _ _

theorem writeLimits_moves (l : Limits) (s : State)
    (bound : standing s.engine.slots .field ≤ Config.generalSize - l.reserve) :
    Moves s (writeLimits l s) :=
  .single (.limited _ (writeLimits_touches l s) rfl rfl rfl bound (handOff_shows _ _) rfl)

theorem workSetLimits_moves (s : State) : Moves s (workSetLimits s) := by
  unfold workSetLimits
  dsimp only
  split
  · next h =>
    have bound := limitsCheck_bound s h
    rw [← (expireIfDue_core s).sameTable.slots] at bound
    have written : Moves s (writeLimits (limitsArgument s.window) (expireIfDue s)) :=
      .head (.core (expireIfDue_core s)) (writeLimits_moves (limitsArgument s.window) _ bound)
    exact (written.complete _ _).tail (.core (expireIfDue_core _))
  · exact completed_moves _ _ s

theorem clock_core (s : State) (c : Stamp) : SameCore s { s with clock := c } := by
  constructor <;> rfl

theorem workSetStamp_moves (s : State) : Moves s (workSetStamp s) :=
  (Moves.complete (.of_core ((expireIfDue_core s).trans (clock_core _ _))) _ _).tail
    (.core (expireIfDue_core _))

theorem staged_same (s : State) (staged : List Staged) :
    SameTable s { s with topo.staged := staged } := by constructor <;> rfl

theorem workTopoBegin_moves (s : State) : Moves s (workTopoBegin s) :=
  Moves.complete (.of_same (staged_same s _)) _ _

theorem workTopoPut_moves (s : State) : Moves s (workTopoPut s) :=
  Moves.complete (.of_same (staged_same s _)) _ _

/-- The place that a commit gives to a kept entry (R62). -/
def Entry.toRoot (e : Entry) : Entry := { e with anchor := 0, sweepMark := false }

theorem Slot.toRoot_eq : Slot.toRoot = Slot.relabel Entry.toRoot := rfl

theorem Entry.label_toRoot : Entry.Label Entry.toRoot := by constructor <;> exact fun _ => rfl

theorem commitWork_moves (s : State) : Moves s (commitWork s) := by
  have touches := Work.retireField_touches (taking s)
  unfold commitWork
  generalize (taking s).retireField = w at touches
  exact .single (.worked w Entry.toRoot Entry.label_toRoot
    (fun _ => Work.deeds_of_touches touches) rfl rfl
    (expireIfDue_core s).groups (expireIfDue_core s).sameTable.reserve (.inl rfl)
    (expireIfDue_core s).pending)

theorem workTopoCommit_moves (s : State) : Moves s (workTopoCommit s) := by
  unfold workTopoCommit
  split
  · exact completed_moves _ _ s
  · split
    · exact completed_moves _ _ s
    · exact commitWork_moves s

theorem workCommitComplete_moves (s : State) : Moves s (workCommitComplete s) :=
  .single (.worked (taking s) id Entry.label_id (fun _ => .refl) (slots_relabel_id _) rfl rfl rfl
    (.inr ⟨rfl, ReleaseControl.handOff_fatalCopy _ _⟩) rfl)

theorem ReleaseControl.setMode_fatalCopy (r : ReleaseControl) (run : Bool) :
    (r.setMode run).fatalCopy = r.fatalCopy := by
  cases run <;> rfl

theorem workSetMode_moves (s : State) : Moves s (workSetMode s) := by
  unfold workSetMode
  dsimp only
  split
  · exact .of_same ⟨rfl, rfl, rfl, rfl, rfl, ReleaseControl.setMode_fatalCopy _ _, rfl, rfl⟩
  · exact completed_moves _ _ s

theorem workGrant_moves (s : State) : Moves s (workGrant s) := by
  unfold workGrant
  dsimp only
  split
  · exact .of_same (by constructor <;> rfl)
  · exact completed_moves _ _ s

/-! ### The later grant -/

theorem windowWork_moves (code : Byte) (s : State) : Moves s (windowWork code s) := by
  unfold windowWork
  split
  · exact workTopoCommit_moves s
  · exact workSetLimits_moves s
  · exact workLookup_moves s
  · exact workGet_moves s
  · exact workListOpen_moves s
  · exact workListNext_moves s
  · exact workListClose_moves s
  · exact workAck_moves s
  · exact workAckAll_moves s
  · exact workSweepStart_moves s
  · exact workRaiseApp_moves s
  · exact workRestoreApp_moves s
  · exact workWarmRestart_moves s
  · exact .refl

/-! ## The report link -/

theorem miss_core (a : Byte) (linkCode : Option Byte) (s : State) :
    SameCore s (miss a linkCode s) := by
  unfold miss
  split
  · exact .refl s
  · next x _ =>
    have lapsed : SameCore s (if x.lapses then setCause (withAgent a Agent.miss s) Cause.lapse
        else withAgent a Agent.miss s) := by
      split
      · exact (withAgent_core a _ s).trans (setCause_core _ _)
      · exact withAgent_core a _ s
    dsimp only
    split
    · exact lapsed.trans (enqueue_core a _ _)
    · exact lapsed

theorem newReport_core (r : Report) (s : State) : SameCore s (newReport r s) := by
  unfold newReport
  split
  · exact withAgent_core _ _ s
  · split
    · exact withAgent_core _ _ s
    · exact (withAgent_core _ _ s).trans (enqueue_core _ _ _)

theorem judgedReport_core (r : Report) (s : State) : SameCore s (judgedReport r s) := by
  unfold judgedReport
  split
  · exact .refl s
  · dsimp only
    split
    · exact withAgent_core _ _ s
    · exact (withAgent_core _ _ s).trans (newReport_core r _)

theorem judgedLive_core (a : Byte) (j : Judged) (s : State) : SameCore s (judgedLive a j s) := by
  unfold judgedLive
  split
  · exact miss_core a _ s
  · exact withAgent_core a _ s
  · exact judgedReport_core _ s

theorem judgedBusy_core (j : Judged) (s : State) : SameCore s (judgedBusy j s) := by
  unfold judgedBusy
  split
  · exact .refl s
  · exact .refl s
  · split
    · exact .refl s
    · split
      · exact withAgent_core _ _ s
      · exact .refl s

theorem judgedReply_core (x : Exchange) (j : Judged) (s : State) :
    SameCore s (judgedReply x j s) := by
  unfold judgedReply
  split
  · exact judgedLive_core _ j s
  · exact judgedBusy_core j s
  · exact .refl s

theorem workReplyJudge_core (x : Exchange) (stopBits : Bool) (bytes : List Byte) (s : State) :
    SameCore s (workReplyJudge x stopBits bytes s) := by
  unfold workReplyJudge
  dsimp only
  split
  · exact (judgedReply_core x _ s).trans (link_core _ _)
  · exact (judgedReply_core x _ s).trans (endExchange_core _)

theorem discardBytes_core (bytes : List Byte) (s : State) : SameCore s (discardBytes bytes s) := by
  unfold discardBytes
  split
  · exact link_core s _
  · split
    · exact endExchange_core s
    · exact link_core s _

theorem workReplyWindowClose_core (x : Exchange) (s : State) :
    SameCore s (workReplyWindowClose x s) := by
  unfold workReplyWindowClose
  split
  · exact (miss_core _ _ s).trans (endExchange_core _)
  · exact endExchange_core s

theorem sendPoll_core (s : State) : SameCore s (sendPoll s) := by
  unfold sendPoll
  split
  · exact link_core s _
  · exact .refl s

/-! ## Reports and part entries -/

theorem answerWith_moves (s : State) (r : Report) (refusal : Option Verdict)
    (work : Work → Work × Verdict)
    (deeds : (taking s).Reserved → Work.Deeds (taking s) (work (taking s)).1) :
    Moves s (answerWith s r refusal work) := by
  unfold answerWith
  split
  · exact .of_core (answerReport_core r _ s)
  · exact (handOff_moves s _ deeds).tail (.core (answerReport_core r _ _))

theorem reportStep_moves (kind : Byte) (work : Report → State → State) (s : State)
    (h : ∀ r u, Moves u (work r u)) : Moves s (reportStep kind work s) := by
  unfold reportStep
  split
  · split
    · exact .head (.same (granted_same .link s)) (h _ _)
    · exact .refl
  · exact .refl
  · exact .refl

theorem workPart_moves (a : Byte) (linkCode : Option Byte) (lapse : Bool) (s : State) :
    Moves s (workPart a linkCode lapse s) :=
  (handOff_moves s _ fun hw => Work.partWork_deeds _ _ _ linkCode lapse hw).tail
    (.core (dequeue_core a _))

theorem grantedPart_moves (a : Byte) (linkCode : Option Byte) (lapse : Bool) (s : State) :
    Moves s (workPart a linkCode lapse (granted .link s)) :=
  .head (.same (granted_same .link s)) (workPart_moves a linkCode lapse _)

theorem workVerifyExpiry_moves (s : State) : Moves s (workVerifyExpiry s) :=
  handOff_moves s _ fun hw => Work.raiseSilent_deeds _ _ hw

/-! ## Window bytes, clock and reset -/

theorem writeAt_core (address : BitVec 7) (value : Byte) (s : State) :
    SameCore s (writeAt address value s) := by
  unfold writeAt
  split
  · constructor <;> rfl
  · split
    · constructor <;> rfl
    · split
      · constructor <;> rfl
      · exact .refl s

theorem port_core (s : State) (p : Port) : SameCore s { s with port := p } := by
  constructor <;> rfl

theorem applyByte_core (address : BitVec 7) (value : Byte) (s : State) :
    SameCore s (applyByte address value s) := by
  unfold applyByte
  split
  · exact (writeAt_core address value s).trans (port_core _ _)
  · exact .refl s

theorem writeByte_core (address : BitVec 7) (b : DataByte) (s : State) :
    SameCore s (writeByte address b s) := by
  unfold writeByte
  split
  · have opened : SameCore s
        (if b.csn.opens then { csnRise s with port := .writing address none } else s) := by
      split
      · exact (csnRise_core s).trans (port_core _ _)
      · exact .refl s
    have applied := opened.trans (applyByte_core address b.value _)
    dsimp only
    split
    · exact applied.trans (csnRise_core _)
    · exact applied
  · split
    · exact csnRise_core s
    · split
      · exact port_core s _
      · exact .refl s

theorem latchStamp_core (s : State) : SameCore s (latchStamp s) := by constructor <;> rfl

theorem tick_core (s : State) : SameCore s (tick s) :=
  (expireIfDue_core s).trans (by constructor <;> rfl)

theorem counts_reset : Counts.of State.reset.engine.slots = ⟨0, 0, 0, 126⟩ := by
  unfold Counts.of standing Machine.fatalHeld
  rw [countEntries_reset, countEntries_reset, countEntries_reset]
  show (⟨0, 0, 0, ((Vector.replicate 128 Slot.reset).toList.take 126).countP _⟩ : Counts) = _
  simp [Slot.reset]

theorem coldReset_move (s : State) : Move s (coldReset s) :=
  .reset rfl rfl rfl ⟨counts_reset.symm, (countEntries_reset _).symm⟩ rfl

theorem inReset_core (s : State) (b : Bool) : SameCore s { s with inReset := b } := by
  constructor <;> rfl

theorem sampleReset_moves (s : State) : Moves s (sampleReset s) := by
  unfold sampleReset
  split
  · exact .refl
  · split
    · exact .single (coldReset_move s)
    · split
      · exact .refl
      · exact .of_core (inReset_core s false)

theorem inputs_core (s : State) (low power clk : Bool) (p : Port) :
    SameCore s { s with resetnLow := low, poweringUp := power, clkPresent := clk, port := p } := by
  constructor <;> rfl

theorem sampleInputs_moves (s : State) (low power clk : Bool) (p : Port) :
    Moves s (sampleReset
      { s with resetnLow := low, poweringUp := power, clkPresent := clk, port := p }) :=
  .head (.core (inputs_core s low power clk p)) (sampleReset_moves _)

end Sys2Proof.Machine

/-!
Every row of the table is a chain of moves; the laws of the counts, of the table and of its space
follow from what each kind of move keeps.
-/

namespace Sys2Proof.Machine

/-- A step that has its effect only under a condition. -/
theorem if_moves (c : Prop) [Decidable c] (s t : State) (h : c → Moves s t) :
    Moves s (if c then t else s) := by
  split
  · next hc => exact h hc
  · exact .refl

theorem execSweepStep_moves (s : State) : ∃ t, execSweepStep s = .next t ∧ Moves s t := by
  refine ⟨_, rfl, ?_⟩
  split
  · exact .refl
  · exact if_moves _ _ _ fun _ => workSweepStep_moves _ s

theorem execWarmRestartComplete_moves (part : RestartEnd) (s : State) :
    ∃ t, execWarmRestartComplete part s = .next t ∧ Moves s t := by
  refine ⟨_, rfl, ?_⟩
  split
  · split
    · exact .refl
    · exact .of_same (clearCauses_same _ s)
  · exact finishRestart_moves _ s
  · exact .refl

theorem execBadCommand_moves (code : Byte) (s : State) :
    ∃ t, execBadCommand code s = .next t ∧ Moves s t := by
  refine ⟨_, rfl, ?_⟩
  split
  · exact .refl
  · exact giveCommand_moves _ _ s fun u => completed_moves _ _ u

theorem execReplyJudge_moves (stop : Bool) (bytes : List Byte) (s : State) :
    ∃ t, execReplyJudge stop bytes s = .next t ∧ Moves s t := by
  refine ⟨_, rfl, if_moves _ _ _ fun _ => .of_core ?_⟩
  split
  · exact discardBytes_core bytes s
  · split
    · exact discardBytes_core bytes s
    · exact workReplyJudge_core _ stop bytes s

theorem execReplyWindowClose_moves (s : State) :
    ∃ t, execReplyWindowClose s = .next t ∧ Moves s t := by
  refine ⟨_, rfl, ?_⟩
  split
  · exact .refl
  · exact if_moves _ _ _ fun _ => .of_core (workReplyWindowClose_core _ s)

theorem execPoll_moves (s : State) : ∃ t, execPoll s = .next t ∧ Moves s t := by
  refine ⟨_, rfl, if_moves _ _ _ fun _ => ?_⟩
  split
  · exact .of_core (link_core s _)
  · exact if_moves _ _ _ fun _ => .of_core (sendPoll_core s)

theorem execRoundStart_moves (s : State) : ∃ t, execRoundStart s = .next t ∧ Moves s t :=
  ⟨_, rfl, if_moves _ _ _ fun _ => .of_core ((link_core s _).trans (comeToNext_core _))⟩

theorem execLapseRequest_moves (s : State) : ∃ t, execLapseRequest s = .next t ∧ Moves s t := by
  refine ⟨_, rfl, ?_⟩
  split
  · exact if_moves _ _ _ fun _ => grantedPart_moves _ _ _ s
  · exact .refl
  · exact .refl

theorem execLinkRaise_moves (s : State) : ∃ t, execLinkRaise s = .next t ∧ Moves s t := by
  refine ⟨_, rfl, ?_⟩
  split
  · exact if_moves _ _ _ fun _ => grantedPart_moves _ _ _ s
  · exact .refl
  · exact .refl

theorem verifyWaiting_core (s : State) (b : Bool) :
    SameCore s { s with topo.verify.waiting := b } := by constructor <;> rfl

theorem execVerifyExpiryRequest_moves (s : State) :
    ∃ t, execVerifyExpiryRequest s = .next t ∧ Moves s t :=
  ⟨_, rfl, if_moves _ _ _ fun _ =>
    .head (.same ((granted_same .verify s).trans (verifyWaiting_core _ false).sameTable))
      (workVerifyExpiry_moves _)⟩

theorem execColdReset_moves (cause : ResetCause) (s : State) :
    ∃ t, execColdReset cause s = .next t ∧ Moves s t := by
  cases cause with
  | resetn => exact ⟨_, rfl, sampleInputs_moves s true s.poweringUp s.clkPresent _⟩
  | powerUp =>
    exact ⟨_, rfl, .head (.core (inputs_core s s.resetnLow true s.clkPresent s.port))
      (.single (coldReset_move _))⟩

/-- Every step answers a next state, which moves lead to. -/
theorem exec_moves (i : Instr) (s : State) : ∃ t, exec i s = .next t ∧ Moves s t := by
  cases i with
  | topoBegin => exact ⟨_, rfl, giveCommand_moves _ _ s workTopoBegin_moves⟩
  | topoPut => exact ⟨_, rfl, giveCommand_moves _ _ s workTopoPut_moves⟩
  | topoCommit engine => exact ⟨_, rfl, request_moves _ engine _ s workTopoCommit_moves⟩
  | commitComplete => exact ⟨_, rfl, if_moves _ _ _ fun _ => workCommitComplete_moves s⟩
  | groupSet => exact ⟨_, rfl, giveCommand_moves _ _ s workGroupSet_moves⟩
  | setLimits engine => exact ⟨_, rfl, request_moves _ engine _ s workSetLimits_moves⟩
  | setStamp => exact ⟨_, rfl, giveCommand_moves _ _ s workSetStamp_moves⟩
  | setMode => exact ⟨_, rfl, giveCommand_moves _ _ s workSetMode_moves⟩
  | grant => exact ⟨_, rfl, giveCommand_moves _ _ s workGrant_moves⟩
  | lookup engine => exact ⟨_, rfl, request_moves _ engine _ s workLookup_moves⟩
  | get engine => exact ⟨_, rfl, request_moves _ engine _ s workGet_moves⟩
  | listOpen engine => exact ⟨_, rfl, request_moves _ engine _ s workListOpen_moves⟩
  | listNext engine => exact ⟨_, rfl, request_moves _ engine _ s workListNext_moves⟩
  | listClose engine => exact ⟨_, rfl, request_moves _ engine _ s workListClose_moves⟩
  | agentInfo => exact ⟨_, rfl, giveCommand_moves _ _ s workAgentInfo_moves⟩
  | ack engine => exact ⟨_, rfl, request_moves _ engine _ s workAck_moves⟩
  | ackAll engine => exact ⟨_, rfl, request_moves _ engine _ s workAckAll_moves⟩
  | clearDomain => exact ⟨_, rfl, giveCommand_moves _ _ s workClearDomain_moves⟩
  | sweepStart =>
    exact ⟨_, rfl, if_moves _ _ _ fun _ => grantedWork_moves _ s workSweepStart_moves⟩
  | sweepStep => exact execSweepStep_moves s
  | clearSummary => exact ⟨_, rfl, giveCommand_moves _ _ s workClearSummary_moves⟩
  | raiseApp engine => exact ⟨_, rfl, request_moves _ engine _ s workRaiseApp_moves⟩
  | restoreApp engine => exact ⟨_, rfl, request_moves _ engine _ s workRestoreApp_moves⟩
  | warmRestart engine => exact ⟨_, rfl, request_moves _ engine _ s workWarmRestart_moves⟩
  | warmRestartComplete part => exact execWarmRestartComplete_moves part s
  | badCommand code => exact execBadCommand_moves code s
  | overrun =>
    exact ⟨_, rfl, if_moves _ _ _ fun _ => giveCommand_moves _ _ s fun _ => .refl⟩
  | attnCauseWrite value => exact ⟨_, rfl, .of_core (writeByte_core _ value s)⟩
  | attnEnableWrite value => exact ⟨_, rfl, .of_core (writeByte_core _ value s)⟩
  | argWrite address value => exact ⟨_, rfl, .of_core (writeByte_core _ value s)⟩
  | stampLatch => exact ⟨_, rfl, if_moves _ _ _ fun _ => .of_core (latchStamp_core s)⟩
  | coldReset cause => exact execColdReset_moves cause s
  | resetRelease => exact ⟨_, rfl, sampleInputs_moves s false false s.clkPresent s.port⟩
  | stampTick => exact ⟨_, rfl, if_moves _ _ _ fun _ => .of_core (tick_core s)⟩
  | verifyExpiry => exact ⟨_, rfl, if_moves _ _ _ fun _ => .of_core (expire_core s)⟩
  | verifyExpiryRequest => exact execVerifyExpiryRequest_moves s
  | roundStart => exact execRoundStart_moves s
  | poll => exact execPoll_moves s
  | replyWindowClose => exact execReplyWindowClose_moves s
  | replyJudge stop bytes => exact execReplyJudge_moves stop bytes s
  | reportRaise =>
    exact ⟨_, rfl, reportStep_moves 1 _ s fun r u =>
      answerWith_moves u r _ _ fun hw => Work.raise_deeds _ _ hw⟩
  | reportRestore =>
    exact ⟨_, rfl, reportStep_moves 2 _ s fun r u =>
      answerWith_moves u r _ _ fun _ => Work.restore_deeds _ _⟩
  | reportArrive =>
    exact ⟨_, rfl, reportStep_moves 3 _ s fun r u =>
      answerWith_moves u r _ _ fun hw => Work.reportArrive_deeds _ r hw⟩
  | reportDepart =>
    exact ⟨_, rfl, reportStep_moves 4 _ s fun r u =>
      answerWith_moves u r _ _ fun hw => Work.reportDepart_deeds _ r hw⟩
  | lapseRequest => exact execLapseRequest_moves s
  | linkRaise => exact execLinkRaise_moves s
  | windowRequestGrant =>
    exact ⟨_, rfl, if_moves _ _ _ fun _ => grantedWork_moves _ s (windowWork_moves _)⟩
  | clkAbsent => exact ⟨_, rfl, .of_core (inputs_core s _ _ false s.port)⟩
  | clkResumed => exact ⟨_, rfl, sampleInputs_moves s s.resetnLow s.poweringUp true s.port⟩

/-! ## A law that every move keeps -/

/-- A law that every move keeps, and that does not speak of the queue, is kept by every step. -/
theorem step_keeps {P : State → Prop} (queue : ∀ s q, P s → P (s.withPending q))
    (move : ∀ s t, Move s t → P s → P t) (s t : State) (hs : P s) (h : step s = .next t) : P t := by
  unfold step at h
  split at h
  · cases h
    exact hs
  · next c rest _ =>
    obtain ⟨u, hu, moves⟩ := exec_moves c (s.withPending rest)
    rw [hu] at h
    cases h
    clear hu
    induction moves with
    | refl => exact queue s rest hs
    | tail _ m ih => exact move _ _ m ih

/-! ## The counts shown -/

theorem State.Shows.countsLaw {t : State} (h : t.Shows) : CountsLaw t :=
  fun _ => ⟨h.counts, h.fatal⟩

/-- Where nothing moves, the counts shown still agree with the table. -/
theorem SameTable.countsLaw {s t : State} (h : SameTable s t) (hs : CountsLaw s) : CountsLaw t := by
  intro hc
  obtain ⟨counts, fatal⟩ := hs (h.state ▸ hc)
  rw [h.counts, h.fatal, h.slots]
  exact ⟨counts, fatal⟩

theorem move_countsLaw (s t : State) (m : Move s t) (hs : CountsLaw s) : CountsLaw t := by
  cases m with
  | same h => exact h.countsLaw hs
  | worked w h label deeds slots seqNext groups reserve shows pending =>
    rcases shows with committing | shows
    · exact fun hc => absurd committing hc
    · exact shows.countsLaw
  | limited w touches slots seqNext groups bound shows pending => exact shows.countsLaw
  | grouped g new number fixed configured groups rest => exact rest.countsLaw hs
  | reset engine groups limits shows pending => exact shows.countsLaw

/-- Settles O53: every move hands the counts out, leaves them beside an unchanged table, or stands
inside a commit. -/
theorem countsLawKept : Obligations.CountsLawKept := by
  unfold Obligations.CountsLawKept
  exact fun s t hs h => step_keeps (fun _ _ h => h) move_countsLaw s t hs h

/-! ## The laws of the table -/

/-- The work of a request carries the laws of the table: what the taking read and the table. -/
structure Work.Lawful (w : Work) : Prop where
  keyed : w.Keyed
  sequenced : w.Sequenced
  noticed : w.Noticed
  reserved : w.Reserved

theorem Work.lawful_of_deeds {w w' : Work} (h : Work.Deeds w w') (hw : w.Lawful) : w'.Lawful := by
  refine h.keeps (fun _ _ => Work.Deed.keeps (fun w w' h hw => ?_)
    fun w r i _ fresh counter place hw => ?_) hw
  · exact ⟨Work.keyed_touch w w' h hw.keyed, Work.sequenced_touch w w' h hw.sequenced,
      Work.noticed_touch w w' h hw.noticed, Work.reserved_touch w w' h hw.reserved⟩
  · exact ⟨Work.keyed_create w r i fresh hw.keyed, Work.sequenced_create w r i counter hw.sequenced,
      Work.noticed_create w r i hw.noticed, Work.reserved_create w r i place hw.reserved⟩

/-- The laws of the table say of a state what they say of the work that its next request begins
with. -/
theorem taking_lawful_iff (s : State) :
    (taking s).Lawful ↔ KeyLaw s ∧ SequenceLaw s ∧ NoticeLaw s ∧ ReservedLaw s :=
  ⟨fun h => ⟨h.keyed, h.sequenced, h.noticed, h.reserved⟩,
    fun ⟨keyed, sequenced, noticed, reserved⟩ => ⟨keyed, sequenced, noticed, reserved⟩⟩

/-- The laws of the table read no more of a work than its entries, its counter and its groups. -/
theorem Work.Lawful.of_entries {w w' : Work} (hw : w.Lawful)
    (entries : ∀ (i : Fin 128) (f : Entry), w'.entry i = some f → ∃ e, w.entry i = some e
      ∧ f.key = e.key ∧ f.seq = e.seq ∧ f.logged = e.logged ∧ f.executed = e.executed)
    (seqNext : w'.seqNext = w.seqNext)
    (configured : ∀ g : Fin 31, w'.groups[g].configured ≠ .notice) : w'.Lawful := by
  obtain ⟨keyed, ⟨first, last, below, distinct⟩, ⟨_, notice⟩, reserved, general⟩ := hw
  refine ⟨fun i j e f he hf hk => ?_, ⟨by omega, by omega, fun i e he => ?_,
    fun i j e f he hf hs => ?_⟩, ⟨configured, fun i e he => ?_⟩,
    fun d e he => ?_, fun i e d hi he => ?_⟩
  · obtain ⟨e0, he0, key, _⟩ := entries i e he
    obtain ⟨f0, hf0, key', _⟩ := entries j f hf
    exact keyed i j e0 f0 he0 hf0 (by rw [← key, ← key', hk])
  · obtain ⟨e0, he0, _, seq, _⟩ := entries i e he
    rw [seq, seqNext]
    exact below i e0 he0
  · obtain ⟨e0, he0, _, seq, _⟩ := entries i e he
    obtain ⟨f0, hf0, _, seq', _⟩ := entries j f hf
    exact distinct i j e0 f0 he0 hf0 (by rw [← seq, ← seq', hs])
  · obtain ⟨e0, he0, _, _, logged, executed⟩ := entries i e he
    rw [logged, executed]
    exact notice i e0 he0
  · obtain ⟨e0, he0, key, _⟩ := entries _ e he
    exact key.trans (reserved d e0 he0)
  · obtain ⟨e0, he0, key, _⟩ := entries i e he
    exact key ▸ general i e0 d hi he0

/-- A relabelled entry is one that stood, with what the laws speak of as it was. -/
theorem entry_relabel (slots : Vector Slot 128) (h : Entry → Entry) (i : Fin 128) (f : Entry)
    (hf : (slots.map (Slot.relabel h))[i].entry = some f) :
      ∃ e, slots[i].entry = some e ∧ h e = f := by
  simpa [Slot.relabel] using hf

theorem groups_configured (groups : Vector GroupRecord 31) (k : Nat) (new : GroupRecord)
    (configured : ∀ g : Fin 31, groups[g].configured ≠ .notice) (h : new.configured ≠ .notice)
    (g : Fin 31) : (groups.setIfInBounds k new)[g].configured ≠ .notice := by
  simp only [Fin.getElem_fin, Vector.getElem_setIfInBounds]
  split
  · exact h
  · exact configured g

theorem taking_lawful_reset : (taking State.reset).Lawful := by
  have free : ∀ i, (taking State.reset).entry i = none := entry_reset
  refine ⟨fun i j e f he => ?_, ⟨by decide, by decide, fun i e he => ?_, fun i j e f he => ?_⟩,
    ⟨by decide, fun i e he => ?_⟩, fun d e he => ?_, fun i e d _ he => ?_⟩ <;>
  · rw [free] at he
    cases he

theorem SameTable.lawful {s t : State} (h : SameTable s t) (hs : (taking s).Lawful) :
    (taking t).Lawful := by
  refine hs.of_entries (fun i f hf => ⟨f, ?_, rfl, rfl, rfl, rfl⟩) h.seqNext ?_
  · have hf' : t.engine.slots[i].entry = some f := hf
    rwa [h.slots] at hf'
  · show ∀ g : Fin 31, t.groups[g].configured ≠ .notice
    rw [h.groups]
    exact hs.noticed.1

theorem move_lawful (s t : State) (m : Move s t) (hs : (taking s).Lawful) :
    (taking t).Lawful := by
  cases m with
  | same h => exact h.lawful hs
  | worked w h label deeds slots seqNext groups reserve shows pending =>
    have hw := Work.lawful_of_deeds (deeds hs.reserved) hs
    refine hw.of_entries (fun i f hf => ?_) seqNext ?_
    · have hf' : t.engine.slots[i].entry = some f := hf
      rw [slots] at hf'
      obtain ⟨e, he, rfl⟩ := entry_relabel _ _ _ _ hf'
      exact ⟨e, he, label.key e, label.seq e, label.logged e, label.executed e⟩
    · show ∀ g : Fin 31, t.groups[g].configured ≠ .notice
      rw [groups]
      exact hs.noticed.1
  | limited w touches slots seqNext groups bound shows pending =>
    have hw := Work.lawful_of_deeds (Work.deeds_of_touches touches)
      ⟨hs.keyed, hs.sequenced, hs.noticed, hs.reserved⟩
    refine hw.of_entries (fun i f hf => ⟨f, ?_, rfl, rfl, rfl, rfl⟩) seqNext ?_
    · have hf' : t.engine.slots[i].entry = some f := hf
      rwa [slots] at hf'
    · show ∀ g : Fin 31, t.groups[g].configured ≠ .notice
      rw [groups]
      exact hs.noticed.1
  | grouped g new number fixed configured groups rest =>
    have same := rest.lawful hs
    refine same.of_entries (fun i f hf => ⟨f, hf, rfl, rfl, rfl, rfl⟩) rfl ?_
    show ∀ g : Fin 31, t.groups[g].configured ≠ .notice
    rw [groups]
    exact groups_configured s.groups _ new hs.noticed.1 configured
  | reset engine groups limits shows pending =>
    refine taking_lawful_reset.of_entries (fun i f hf => ⟨f, ?_, rfl, rfl, rfl, rfl⟩)
      (congrArg Engine.seqNext engine) ?_
    · have hf' : t.engine.slots[i].entry = some f := hf
      rwa [engine] at hf'
    · show ∀ g : Fin 31, t.groups[g].configured ≠ .notice
      rw [groups]
      exact taking_lawful_reset.noticed.1

/-- Settles O54: the laws are kept by every deed of a request, by a relabelling and by a group
record. -/
theorem tableLawsKept : Obligations.TableLawsKept := by
  unfold Obligations.TableLawsKept
  intro s t key sequence notice reserved h
  exact (taking_lawful_iff t).mp (step_keeps (P := fun s => (taking s).Lawful) (fun _ _ h => h)
    move_lawful s t ((taking_lawful_iff s).mpr ⟨key, sequence, notice, reserved⟩) h)

/-! ## The space in the table -/

/-- The fixed fields of a group number, in a Group Table (R32, R33). -/
def groupFixed (groups : Vector GroupRecord 31) (g : Byte) : Prop :=
  (groupOf groups g).enabled = true ∧ (groupOf groups g).latching = false
    ∧ (groupOf groups g).domain = (groupOf GroupRecord.resetTable g).domain
    ∧ (groupOf groups g).logged = (groupOf GroupRecord.resetTable g).logged
    ∧ (groupOf groups g).configurable = (groupOf GroupRecord.resetTable g).configurable
    ∧ (groupOf groups g).momentary = (groupOf GroupRecord.resetTable g).momentary
    ∧ ((groupOf groups g).configurable = false → (groupOf groups g).configured = .diagnostic)
    ∧ (g ≠ 7 → (groupOf groups g).burstThreshold = 0 ∧ (groupOf groups g).burstWindow = 1000)

theorem policyLaw_iff (s : State) :
    PolicyLaw s ↔ ∀ g : Byte, 1 ≤ g.toNat → g.toNat ≤ 8 → groupFixed s.groups g := Iff.rfl

/-- A written record is read at its own number alone (R30). -/
theorem groupOf_set (groups : Vector GroupRecord 31) (g h : Byte) (new : GroupRecord)
    (hg : groupNumberOk g = true) (h1 : 1 ≤ h.toNat) :
    groupOf (groups.setIfInBounds (g.toNat - 1) new) h
      = if h = g then new else groupOf groups h := by
  simp only [groupNumberOk, Bool.and_eq_true, decide_eq_true_eq] at hg
  unfold groupOf
  simp only [List.getD_eq_getElem?_getD, Vector.toList_setIfInBounds, List.getElem?_set]
  by_cases same : h = g
  · subst same
    have bound : h.toNat - 1 < 31 := by omega
    simp [bound]
  · have other : g.toNat - 1 ≠ h.toNat - 1 := by
      intro hn
      exact same (BitVec.eq_of_toNat_eq (by omega))
    simp [other, same]

/-- A record whose fixed fields agree with the one it replaces keeps the fields of R33 (R43). -/
theorem groupFixed_of_agree (groups : Vector GroupRecord 31) (g h : Byte) (new : GroupRecord)
    (hg : groupNumberOk g = true) (agree : fixedFieldsAgree g (groupOf groups g) new = true)
    (h1 : 1 ≤ h.toNat) (h8 : h.toNat ≤ 8) (fixed : groupFixed groups h) :
    groupFixed (groups.setIfInBounds (g.toNat - 1) new) h := by
  unfold groupFixed at fixed ⊢
  rw [groupOf_set groups g h new hg h1]
  split
  · next same =>
    subst same
    obtain ⟨enabled, latching, domain, logged, configurable, momentary, configured, burst⟩ := fixed
    unfold fixedFieldsAgree at agree
    simp only [show ¬ 8 < h.toNat by omega, decide_false, Bool.false_or, Bool.and_eq_true,
      Bool.or_eq_true, beq_iff_eq] at agree
    obtain ⟨⟨⟨⟨⟨⟨⟨a1, a2⟩, a3⟩, a4⟩, a5⟩, a6⟩, a7⟩, a8⟩ := agree
    refine ⟨a1.trans enabled, a5.trans latching, a2.trans domain, a3.trans logged,
      a4.trans configurable, a6.trans momentary, fun hc => ?_, fun h7 => ?_⟩
    · rw [a4] at hc
      rcases a8 with held | same
      · rw [hc] at held
        cases held
      · exact same.trans (configured hc)
    · obtain ⟨threshold, window⟩ := a7.resolve_left h7
      exact ⟨threshold.trans (burst h7).1, window.trans (burst h7).2⟩
  · exact fixed

theorem groupFixed_reset (g : Byte) (h1 : 1 ≤ g.toNat) (h8 : g.toNat ≤ 8) :
    groupFixed GroupRecord.resetTable g := by
  have hg : g = BitVec.ofNat 8 g.toNat := by simp
  generalize g.toNat = n at hg h1 h8
  subst hg
  unfold groupFixed
  interval_cases n <;> decide

/-- The law of the space says of a state what it says of the work that its next request begins with,
beside the fixed fields of the groups. -/
theorem spaceLaw_iff (s : State) : SpaceLaw s ↔ PolicyLaw s ∧ (taking s).Spaced := by
  refine ⟨fun ⟨policy, reserved, unit, bound⟩ => ⟨policy, ?_, reserved, unit, bound⟩,
    fun ⟨policy, spaced⟩ => ⟨policy, spaced.reserved, spaced.unit, spaced.bound⟩⟩
  obtain ⟨_, _, domain, _⟩ := policy 6 (by decide) (by decide)
  exact domain

/-- The bound of the space reads no more of a work than its entries, UNIT_RESERVE and group 6. -/
theorem Work.Spaced.of_entries {w w' : Work} (hw : w.Spaced)
    (entries : ∀ (i : Fin 128) (f : Entry), w'.entry i = some f → ∃ e, w.entry i = some e
      ∧ f.key = e.key ∧ f.domain = e.domain)
    (reserve : w'.reserve = w.reserve) (tableFull : (w'.group 6).domain = .unit) : w'.Spaced := by
  refine ⟨tableFull, ⟨fun d e he => ?_, fun i e d hi he => ?_⟩, fun d e he => ?_, ?_⟩
  · obtain ⟨e0, he0, key, _⟩ := entries _ e he
    exact key.trans (hw.reserved.1 d e0 he0)
  · obtain ⟨e0, he0, key, _⟩ := entries i e he
    exact key ▸ hw.reserved.2 i e0 d hi he0
  · obtain ⟨e0, he0, _, domain⟩ := entries _ e he
    exact domain.trans (hw.unit d e0 he0)
  · rw [reserve]
    refine le_trans (countEntries_mono fun i f hf hd => ?_) hw.bound
    obtain ⟨e, he, _, domain⟩ := entries i f hf
    exact ⟨e, he, domain ▸ hd⟩

theorem SameTable.spaced {s t : State} (h : SameTable s t) (hs : (taking s).Spaced) :
    (taking t).Spaced := by
  refine hs.of_entries (fun i f hf => ⟨f, ?_, rfl, rfl⟩) h.reserve ?_
  · have hf' : t.engine.slots[i].entry = some f := hf
    rwa [h.slots] at hf'
  · show (groupOf t.groups 6).domain = .unit
    rw [h.groups]
    exact hs.tableFull

theorem policyLaw_of_groups {s t : State} (h : t.groups = s.groups) (hs : PolicyLaw s) :
    PolicyLaw t := by
  rw [policyLaw_iff] at hs ⊢
  rw [h]
  exact hs

theorem spaceLaw_reset : SpaceLaw State.reset := by
  refine ⟨groupFixed_reset, taking_lawful_reset.reserved, fun d e he => ?_, ?_⟩
  · rw [entry_reset] at he
    cases he
  · unfold standing
    rw [countEntries_reset]
    exact Nat.zero_le _

theorem move_spaceLaw (s t : State) (m : Move s t) (hs : SpaceLaw s) : SpaceLaw t := by
  rw [spaceLaw_iff] at hs ⊢
  obtain ⟨policy, spaced⟩ := hs
  cases m with
  | same h => exact ⟨policyLaw_of_groups h.groups policy, h.spaced spaced⟩
  | worked w h label deeds slots seqNext groups reserve shows pending =>
    have hw := Work.spaced_of_deeds (deeds spaced.reserved) spaced
    have taking := Work.sameTaking_of_deeds (deeds spaced.reserved)
    refine ⟨policyLaw_of_groups groups policy,
      hw.of_entries (fun i f hf => ?_) (reserve.trans taking.reserve.symm) ?_⟩
    · have hf' : t.engine.slots[i].entry = some f := hf
      rw [slots] at hf'
      obtain ⟨e, he, rfl⟩ := entry_relabel _ _ _ _ hf'
      exact ⟨e, he, label.key e, label.domain e⟩
    · show (groupOf t.groups 6).domain = .unit
      rw [groups]
      exact spaced.tableFull
  | limited w touches slots seqNext groups bound shows pending =>
    have hw := Work.spaced_of_touches touches
      ⟨spaced.tableFull, spaced.reserved, spaced.unit, bound⟩
    refine ⟨policyLaw_of_groups groups policy,
      hw.of_entries (fun i f hf => ⟨f, ?_, rfl, rfl⟩)
        (Work.sameTaking_of_touches touches).reserve.symm ?_⟩
    · have hf' : t.engine.slots[i].entry = some f := hf
      rwa [slots] at hf'
    · show (groupOf t.groups 6).domain = .unit
      rw [groups]
      exact spaced.tableFull
  | grouped g new number fixed configured groups rest =>
    have written : PolicyLaw t := by
      rw [policyLaw_iff, groups]
      exact fun h h1 h8 => groupFixed_of_agree s.groups g h new number fixed h1 h8 (policy h h1 h8)
    obtain ⟨_, _, domain, _⟩ := written 6 (by decide) (by decide)
    exact ⟨written, (rest.spaced spaced).of_entries (fun i f hf => ⟨f, hf, rfl, rfl⟩) rfl domain⟩
  | reset engine groups limits shows pending =>
    obtain ⟨policy0, spaced0⟩ := (spaceLaw_iff _).mp spaceLaw_reset
    refine ⟨policyLaw_of_groups groups policy0, spaced0.of_entries
      (fun i f hf => ⟨f, ?_, rfl, rfl⟩) (congrArg Limits.reserve limits) ?_⟩
    · have hf' : t.engine.slots[i].entry = some f := hf
      rwa [engine] at hf'
    · show (groupOf t.groups 6).domain = .unit
      rw [groups]
      exact spaced0.tableFull

/-- Settles O55: a creation finds room below the bound (R89) or takes the place of an entry of its
domain (R91), and new limits are checked against the standing entries (R99). -/
theorem spaceLawKept : Obligations.SpaceLawKept := by
  unfold Obligations.SpaceLawKept
  exact fun s t hs h => step_keeps (fun _ _ h => h) move_spaceLaw s t hs h

end Sys2Proof.Machine

/-!
The window runs one command at a time: a command is taken with no work under way, and its owner
either completes it or leaves exactly one work that keeps the window BUSY (R12, R192, R197).
-/

namespace Sys2Proof.Machine

/-! ## The works under way -/

/-- A command has been taken and none of the works that keep it BUSY is under way yet. -/
structure State.Engaged (s : State) : Prop where
  waiting : s.window.waiting = false
  sweep : s.engine.sweep = none
  state : s.topo.state ≠ .committing
  restart : s.window.restart = none
  busy : s.window.cmdState = .busy

/-- The works under way, and the command at work, are the same. -/
structure SameWorks (s t : State) : Prop where
  waiting : t.window.waiting = s.window.waiting
  sweep : t.engine.sweep.isSome = s.engine.sweep.isSome
  state : t.topo.state = s.topo.state
  restart : t.window.restart.isSome = s.window.restart.isSome
  cmdState : t.window.cmdState = s.window.cmdState
  cmd : t.window.cmd = s.window.cmd
  argCopy : t.window.argCopy = s.window.argCopy

theorem SameWorks.refl (s : State) : SameWorks s s := by constructor <;> rfl

theorem SameWorks.trans {s u t : State} (h : SameWorks s u) (h' : SameWorks u t) :
    SameWorks s t :=
  ⟨h'.waiting.trans h.waiting, h'.sweep.trans h.sweep, h'.state.trans h.state,
    h'.restart.trans h.restart, h'.cmdState.trans h.cmdState, h'.cmd.trans h.cmd,
    h'.argCopy.trans h.argCopy⟩

theorem SameCore.sameWorks {s t : State} (h : SameCore s t) : SameWorks s t :=
  ⟨h.waiting, by rw [h.engine], h.state, by rw [h.restart], h.cmdState, h.cmd, h.argCopy⟩

theorem worksUnderWay_of_sameWorks {s t : State} (h : SameWorks s t) :
    t.worksUnderWay = s.worksUnderWay := by
  unfold State.worksUnderWay
  rw [h.waiting, h.sweep, h.state, h.restart]

theorem requestNamed_of_sameWorks {s t : State} (h : SameWorks s t) (hs : s.requestNamed) :
    t.requestNamed := by
  unfold State.requestNamed Window.argAt at hs ⊢
  rw [h.cmd, h.argCopy]
  exact hs

theorem SameWorks.oneCommandLaw {s t : State} (h : SameWorks s t) (hs : OneCommandLaw s) :
    OneCommandLaw t := by
  obtain ⟨works, named⟩ := hs
  refine ⟨?_, fun hw => requestNamed_of_sameWorks h (named (h.waiting ▸ hw))⟩
  rw [worksUnderWay_of_sameWorks h, h.cmdState]
  exact works

theorem SameWorks.engaged {s t : State} (h : SameWorks s t) (hs : s.Engaged) : t.Engaged :=
  ⟨h.waiting.trans hs.waiting,
    by simpa [hs.sweep] using h.sweep, h.state ▸ hs.state, by simpa [hs.restart] using h.restart,
    h.cmdState.trans hs.busy⟩

/-! ## The law by its cases -/

theorem completes_ne_busy (result : Byte) : Result.completes result ≠ .busy := by
  unfold Result.completes
  split <;> decide

/-- Of four works of which one is under way, the three others are not. -/
theorem one_of_four {a b c d : Prop} [Decidable a] [Decidable b] [Decidable c] [Decidable d]
    (h : (if a then 1 else 0) + (if b then 1 else 0) + (if c then 1 else 0)
      + (if d then 1 else 0) = 1) :
    (a → ¬ b ∧ ¬ c ∧ ¬ d) ∧ (b → ¬ a ∧ ¬ c ∧ ¬ d) ∧ (c → ¬ a ∧ ¬ b ∧ ¬ d)
      ∧ (d → ¬ a ∧ ¬ b ∧ ¬ c) := by
  by_cases ha : a <;> by_cases hb : b <;> by_cases hc : c <;> by_cases hd : d <;>
    simp [ha, hb, hc, hd] at h ⊢

/-- While one of the works is under way the window is BUSY, and the others are not. -/
theorem OneCommandLaw.one {s : State} (h : OneCommandLaw s) (hw : s.window.waiting = true
      ∨ s.engine.sweep.isSome = true ∨ s.topo.state = .committing
      ∨ s.window.restart.isSome = true) :
    s.window.cmdState = .busy ∧ s.worksUnderWay = 1 := by
  obtain ⟨works, _⟩ := h
  have counted : s.worksUnderWay ≠ 0 := by
    unfold State.worksUnderWay
    rcases hw with hw | hw | hw | hw <;> simp [hw]
  split at works
  · next hb => exact ⟨hb, works⟩
  · exact absurd works counted

/-- A window that waits is BUSY with nothing but its request. -/
theorem OneCommandLaw.of_waiting {s : State} (h : OneCommandLaw s) (hw : s.window.waiting = true) :
    s.window.cmdState = .busy ∧ s.engine.sweep = none ∧ s.topo.state ≠ .committing
      ∧ s.window.restart = none := by
  obtain ⟨busy, one⟩ := h.one (.inl hw)
  obtain ⟨sweep, state, restart⟩ := (one_of_four one).1 hw
  exact ⟨busy, by simpa using sweep, state, by simpa using restart⟩

/-- A window whose sweep runs is BUSY with nothing but the sweep. -/
theorem OneCommandLaw.of_sweep {s : State} (h : OneCommandLaw s) (sw : Sweep)
    (hsw : s.engine.sweep = some sw) : s.window.waiting = false ∧ s.topo.state ≠ .committing
      ∧ s.window.restart = none := by
  have some : s.engine.sweep.isSome = true := by rw [hsw]; rfl
  obtain ⟨_, one⟩ := h.one (.inr (.inl some))
  obtain ⟨waiting, state, restart⟩ := (one_of_four one).2.1 some
  exact ⟨by simpa using waiting, state, by simpa using restart⟩

/-- A window whose commit is worked is BUSY with nothing but the commit. -/
theorem OneCommandLaw.of_committing {s : State} (h : OneCommandLaw s)
    (hc : s.topo.state = .committing) : s.window.waiting = false ∧ s.engine.sweep = none
      ∧ s.window.restart = none := by
  obtain ⟨_, one⟩ := h.one (.inr (.inr (.inl hc)))
  obtain ⟨waiting, sweep, restart⟩ := (one_of_four one).2.2.1 hc
  exact ⟨by simpa using waiting, by simpa using sweep, by simpa using restart⟩

/-- A window whose restart is to be completed is BUSY with nothing but the restart. -/
theorem OneCommandLaw.of_restart {s : State} (h : OneCommandLaw s) (r : Restart)
    (hr : s.window.restart = some r) : s.window.waiting = false ∧ s.engine.sweep = none
      ∧ s.topo.state ≠ .committing := by
  have some : s.window.restart.isSome = true := by rw [hr]; rfl
  obtain ⟨_, one⟩ := h.one (.inr (.inr (.inr some)))
  obtain ⟨waiting, sweep, state⟩ := (one_of_four one).2.2.2 some
  exact ⟨by simpa using waiting, by simpa using sweep, state⟩

/-- Where the window is not BUSY no work is under way. -/
theorem OneCommandLaw.idle {s : State} (h : OneCommandLaw s) (hb : s.window.cmdState ≠ .busy) :
    s.window.waiting = false ∧ s.engine.sweep = none ∧ s.topo.state ≠ .committing
      ∧ s.window.restart = none := by
  refine ⟨?_, ?_, fun hc => ?_, ?_⟩
  · by_contra hw
    exact hb (h.one (.inl (by simpa using hw))).1
  · by_contra hsw
    exact hb (h.one (.inr (.inl (Option.isSome_iff_ne_none.mpr hsw)))).1
  · exact hb (h.one (.inr (.inr (.inl hc)))).1
  · by_contra hr
    exact hb (h.one (.inr (.inr (.inr (Option.isSome_iff_ne_none.mpr hr))))).1

/-- With no work under way the law asks that the window is not BUSY. -/
theorem oneCommandLaw_of_none (s : State) (waiting : s.window.waiting = false)
    (sweep : s.engine.sweep = none) (state : s.topo.state ≠ .committing)
    (restart : s.window.restart = none) (cmdState : s.window.cmdState ≠ .busy) :
    OneCommandLaw s := by
  refine ⟨?_, fun hw => ?_⟩
  · unfold State.worksUnderWay
    simp [waiting, sweep, state, restart, cmdState]
  · rw [waiting] at hw
    cases hw

/-- The completion of a command at work ends its BUSY. -/
theorem State.Engaged.complete {s : State} (h : s.Engaged) (result : Byte) (response : List Byte) :
    OneCommandLaw (complete result response s) :=
  oneCommandLaw_of_none _ h.waiting h.sweep h.state h.restart (completes_ne_busy result)

/-- A completion on a state with the same works. -/
theorem SameWorks.complete {s u : State} (h : SameWorks s u) (hs : s.Engaged) (result : Byte)
    (response : List Byte) : OneCommandLaw (complete result response u) :=
  (h.engaged hs).complete result response

/-- The work of a command may end so: whatever holds of the engaged window, the law holds after. -/
def Finishes (work : State → State) : Prop := ∀ u : State, u.Engaged → OneCommandLaw (work u)

/-! ## Operations that leave the works -/

theorem handOff_works (s : State) (w : Work) : SameWorks s (handOff s w) := by
  constructor <;> rfl

theorem granted_works (src : Source) (s : State) : SameWorks s (granted src s) :=
  ⟨rfl, by unfold granted; exact Option.isSome_map, rfl, rfl, rfl, rfl, rfl⟩

theorem setCursor_works (n : Byte) (c : Cursor) (s : State) : SameWorks s (setCursor n c s) := by
  constructor <;> rfl

theorem beside_works (s : State) (groups : Vector GroupRecord 31) (limits : Limits)
    (release : ReleaseControl) (clock : Stamp) (summary : Summary) (staged : List Staged) :
    SameWorks s { s with
      groups := groups, limits := limits, release := release, clock := clock, summary := summary
      topo.staged := staged } := by
  constructor <;> rfl

/-! ## The works of the commands -/

theorem workTopoBegin_finishes : Finishes workTopoBegin := fun u hu =>
  (beside_works u u.groups u.limits u.release u.clock u.summary _).complete hu _ _

theorem workTopoPut_finishes : Finishes workTopoPut := fun u hu =>
  (beside_works u u.groups u.limits u.release u.clock u.summary _).complete hu _ _

theorem workClearSummary_finishes : Finishes workClearSummary := fun u hu =>
  (beside_works u u.groups u.limits u.release u.clock _ u.topo.staged).complete hu _ _

theorem workGroupSet_finishes : Finishes workGroupSet := by
  intro u hu
  unfold workGroupSet
  dsimp only
  split
  · exact hu.complete _ _
  · split
    · exact hu.complete _ _
    · split
      · exact hu.complete _ _
      · split
        · exact (beside_works u _ u.limits u.release u.clock u.summary u.topo.staged).complete
            hu _ _
        · exact hu.complete _ _

theorem workSetStamp_finishes : Finishes workSetStamp := by
  intro u hu
  have expired := (expireIfDue_core u).sameWorks
  have loaded := (clock_core (expireIfDue u) (stampArgument u.window)).sameWorks
  exact (expireIfDue_core _).sameWorks.oneCommandLaw ((expired.trans loaded).complete hu _ _)

theorem workSetMode_finishes : Finishes workSetMode := by
  intro u hu
  unfold workSetMode
  dsimp only
  split
  · exact (beside_works u u.groups u.limits _ u.clock u.summary u.topo.staged).complete hu _ _
  · exact hu.complete _ _

theorem workGrant_finishes : Finishes workGrant := by
  intro u hu
  unfold workGrant
  dsimp only
  split
  · exact (beside_works u u.groups u.limits _ u.clock u.summary u.topo.staged).complete hu _ _
  · exact hu.complete _ _

theorem workAgentInfo_finishes : Finishes workAgentInfo := by
  intro u hu
  unfold workAgentInfo
  dsimp only
  split
  · exact hu.complete _ _
  · split
    · exact hu.complete _ _
    · exact hu.complete _ _

theorem workLookup_finishes : Finishes workLookup := by
  intro u hu
  unfold workLookup
  dsimp only
  split
  · exact hu.complete _ _
  · exact hu.complete _ _

theorem workGet_finishes : Finishes workGet := by
  intro u hu
  unfold workGet
  split
  · exact hu.complete _ _
  · split
    · exact hu.complete _ _
    · exact hu.complete _ _

theorem workListOpen_finishes : Finishes workListOpen := by
  intro u hu
  unfold workListOpen
  split
  · exact (setCursor_works _ _ u).complete hu _ _
  · exact hu.complete _ _

/-- LIST-NEXT answers, since the entry that it found stands (R166). -/
theorem nextMatch_finishes (n : Byte) (c : Cursor) : Finishes (nextMatch n c) := by
  intro u hu
  unfold nextMatch
  split
  · next i seq ho =>
    obtain ⟨_, e, he, _⟩ := oldest_some _ _ _ _ _ ho
    rw [he]
    exact (setCursor_works n _ u).complete hu _ _
  · exact (setCursor_works n _ u).complete hu _ _

theorem workListNext_finishes : Finishes workListNext := by
  intro u hu
  unfold workListNext
  dsimp only
  split
  · exact hu.complete _ _
  · split
    · exact hu.complete _ _
    · exact nextMatch_finishes _ _ u hu
    · exact hu.complete _ _

theorem workListClose_finishes : Finishes workListClose := by
  intro u hu
  unfold workListClose
  dsimp only
  split
  · exact hu.complete _ _
  · exact (setCursor_works _ _ u).complete hu _ _

theorem workAck_finishes : Finishes workAck := by
  intro u hu
  unfold workAck
  dsimp only
  split
  · exact hu.complete _ _
  · split
    · exact hu.complete _ _
    · exact (handOff_works u _).complete hu _ _

theorem workAckAll_finishes : Finishes workAckAll := by
  intro u hu
  unfold workAckAll
  dsimp only
  split
  · exact (handOff_works u _).complete hu _ _
  · exact hu.complete _ _

theorem workRaiseApp_finishes : Finishes workRaiseApp := by
  intro u hu
  unfold workRaiseApp
  dsimp only
  split
  · exact (handOff_works u _).complete hu _ _
  · exact hu.complete _ _

theorem workRestoreApp_finishes : Finishes workRestoreApp := by
  intro u hu
  unfold workRestoreApp
  dsimp only
  split
  · exact (handOff_works u _).complete hu _ _
  · exact hu.complete _ _

theorem writeLimits_works (l : Limits) (s : State) : SameWorks s (writeLimits l s) := by
  constructor <;> rfl

theorem workSetLimits_finishes : Finishes workSetLimits := by
  intro u hu
  unfold workSetLimits
  dsimp only
  split
  · have written := (expireIfDue_core u).sameWorks.trans
      (writeLimits_works (limitsArgument u.window) _)
    exact (expireIfDue_core _).sameWorks.oneCommandLaw (written.complete hu _ _)
  · exact hu.complete _ _

/-- The granted commit is the one work under way until its end (R62, R64). -/
theorem commitWork_finishes : Finishes commitWork := by
  intro u hu
  have expired := (expireIfDue_core u).sameWorks.engaged hu
  refine ⟨?_, fun hw => ?_⟩
  · have waiting : (commitWork u).window.waiting = false := expired.waiting
    have sweep : (commitWork u).engine.sweep = none := expired.sweep
    have state : (commitWork u).topo.state = .committing := rfl
    have restart : (commitWork u).window.restart = none := expired.restart
    have busy : (commitWork u).window.cmdState = .busy := expired.busy
    unfold State.worksUnderWay
    simp [waiting, sweep, state, restart, busy]
  · exact absurd (expired.waiting.symm.trans hw) (by decide)

theorem workTopoCommit_finishes : Finishes workTopoCommit := by
  intro u hu
  unfold workTopoCommit
  split
  · exact hu.complete _ _
  · split
    · exact hu.complete _ _
    · exact commitWork_finishes u hu

theorem restartOwners_works (s : State) : SameWorks s (restartOwners s) := by
  have expired := (expireIfDue_core s).sameWorks
  have verified : SameWorks (expireIfDue s) (restartVerify (expireIfDue s)) := by
    unfold restartVerify
    split <;> (constructor <;> rfl)
  exact expired.trans (verified.trans (by constructor <;> rfl))

/-- The granted restart is the one work under way until its completion (R184, R185). -/
theorem workWarmRestart_finishes : Finishes workWarmRestart := by
  intro u hu
  unfold workWarmRestart
  generalize (taking u).warmRestart = w
  have owners := (restartOwners_works u).engaged hu
  refine ⟨?_, fun hw => ?_⟩
  · unfold State.worksUnderWay
    simp [owners.waiting, owners.sweep, owners.state, owners.busy]
  · exact absurd (owners.waiting.symm.trans hw) (by decide)

/-- The granted CLEAR-DOMAIN leaves its sweep as the one work under way (R176). -/
theorem startSweepOf_finishes (d : Domain) : Finishes (startSweepOf d) := by
  intro u hu
  refine ⟨?_, fun hw => ?_⟩
  · have waiting : (startSweepOf d u).window.waiting = false := hu.waiting
    have sweep : (startSweepOf d u).engine.sweep.isSome = true := rfl
    have state : (startSweepOf d u).topo.state ≠ .committing := hu.state
    have restart : (startSweepOf d u).window.restart = none := hu.restart
    have busy : (startSweepOf d u).window.cmdState = .busy := hu.busy
    unfold State.worksUnderWay
    simp [waiting, sweep, state, restart, busy]
  · exact absurd (hu.waiting.symm.trans hw) (by decide)

theorem workSweepStart_oneCommand (u : State) (hu : u.Engaged)
    (named : (Domain.ofByte (u.window.argAt 0)).isSome) : OneCommandLaw (workSweepStart u) := by
  unfold workSweepStart
  split
  · next h =>
    rw [h] at named
    cases named
  · exact startSweepOf_finishes _ u hu

/-- The later grant works the request whose command is named (R14, R197). -/
theorem windowWork_oneCommand (u : State) (hu : u.Engaged) (named : u.requestNamed) :
    OneCommandLaw (windowWork u.window.cmd u) := by
  obtain ⟨cmd, domain⟩ := named
  simp only [List.mem_cons, List.not_mem_nil, or_false] at cmd
  rcases cmd with h | h | h | h | h | h | h | h | h | h | h | h | h
  · rw [h]; exact workTopoCommit_finishes u hu
  · rw [h]; exact workSetLimits_finishes u hu
  · rw [h]; exact workLookup_finishes u hu
  · rw [h]; exact workGet_finishes u hu
  · rw [h]; exact workListOpen_finishes u hu
  · rw [h]; exact workListNext_finishes u hu
  · rw [h]; exact workListClose_finishes u hu
  · rw [h]; exact workAck_finishes u hu
  · rw [h]; exact workAckAll_finishes u hu
  · rw [h]; exact workSweepStart_oneCommand u hu (domain h)
  · rw [h]; exact workRaiseApp_finishes u hu
  · rw [h]; exact workRestoreApp_finishes u hu
  · rw [h]; exact workWarmRestart_finishes u hu

/-! ## Taking and granting -/

/-- A command taken by a window that is not BUSY finds no work under way. -/
theorem OneCommandLaw.taken {s : State} (h : OneCommandLaw s) (code : Byte)
    (hb : s.window.cmdState ≠ .busy) : (s.taken code).Engaged := by
  obtain ⟨waiting, sweep, state, restart⟩ := h.idle hb
  exact ⟨waiting, sweep, state, restart, rfl⟩

theorem giveCommand_oneCommand (code : Byte) (owner : State → State) (s : State)
    (hs : OneCommandLaw s)
    (ho : ∀ u : State, u.Engaged → u.window.cmd = code → OneCommandLaw (owner u)) :
    OneCommandLaw (giveCommand code owner s) := by
  unfold giveCommand
  split
  · exact (csnRise_core s).sameWorks.oneCommandLaw hs
  · split
    · exact ((csnRise_core s).trans (refuseOverrun_core _)).sameWorks.oneCommandLaw hs
    · next hb => exact ho (s.taken code) (hs.taken code hb) rfl

theorem short_oneCommand (code : Byte) (owner : State → State) (s : State) (hs : OneCommandLaw s)
    (ho : Finishes owner) : OneCommandLaw (giveCommand code owner s) :=
  giveCommand_oneCommand code owner s hs fun u hu _ => ho u hu

/-- A request presented waits as the one work under way (R197). -/
theorem waits_oneCommand (u : State) (hu : u.Engaged)
    (named : ({ u with window.waiting := true } : State).requestNamed) :
    OneCommandLaw { u with window.waiting := true } := by
  refine ⟨?_, fun _ => named⟩
  unfold State.worksUnderWay
  simp [hu.sweep, hu.state, hu.restart, hu.busy]

/-- The marks of the grant leave an engaged window as it is. -/
theorem grantedEngaged {s : State} (busy : s.window.cmdState = .busy)
    (sweep : s.engine.sweep = none)
    (state : s.topo.state ≠ .committing) (restart : s.window.restart = none) :
    ({ granted .window s with window.waiting := false } : State).Engaged :=
  ⟨rfl, by show s.engine.sweep.map _ = none; rw [sweep]; rfl, state, restart, busy⟩

theorem presentRequest_oneCommand (engine : EngineAt) (work : State → State) (u : State)
    (hu : u.Engaged) (hw : Finishes work)
    (code : u.window.cmd
      ∈ ([0x12, 0x23, 0x40, 0x41, 0x42, 0x43, 0x44, 0x50, 0x51, 0x54, 0x55, 0x60] :
      List Byte)) : OneCommandLaw (presentRequest engine work u) := by
  unfold presentRequest
  dsimp only
  split
  · exact hw _ (grantedEngaged hu.busy hu.sweep hu.state hu.restart)
  · refine waits_oneCommand u hu ⟨?_, fun h => ?_⟩
    · have within : ∀ c
        ∈ ([0x12, 0x23, 0x40, 0x41, 0x42, 0x43, 0x44, 0x50, 0x51, 0x54, 0x55, 0x60] :
          List Byte), c ∈ ([0x12, 0x23, 0x40, 0x41, 0x42, 0x43, 0x44, 0x50, 0x51, 0x52, 0x54, 0x55,
          0x60] : List Byte) := by decide
      exact within _ code
    · have h' : u.window.cmd = 0x52 := h
      rw [h'] at code
      exact absurd code (by decide)

theorem request_oneCommand (code : Byte) (engine : EngineAt) (work : State → State) (s : State)
    (hs : OneCommandLaw s) (hw : Finishes work)
    (hc : code ∈ ([0x12, 0x23, 0x40, 0x41, 0x42, 0x43, 0x44, 0x50, 0x51, 0x54, 0x55, 0x60] :
      List Byte)) : OneCommandLaw (giveCommand code (presentRequest engine work) s) :=
  giveCommand_oneCommand code _ s hs fun u hu cmd =>
    presentRequest_oneCommand engine work u hu hw (cmd ▸ hc)

theorem workClearDomain_oneCommand (u : State) (hu : u.Engaged) (cmd : u.window.cmd = 0x52) :
    OneCommandLaw (workClearDomain u) := by
  unfold workClearDomain
  split
  · exact hu.complete _ _
  · next d hd =>
    refine waits_oneCommand u hu ⟨?_, fun _ => ?_⟩
    · show u.window.cmd ∈ _
      rw [cmd]
      decide
    · show (Domain.ofByte (u.window.argAt 0)).isSome = true
      rw [hd]
      rfl

/-! ## The other rows -/

theorem if_oneCommand (c : Prop) [Decidable c] (s t : State) (hs : OneCommandLaw s)
    (h : c → OneCommandLaw t) : OneCommandLaw (if c then t else s) := by
  split
  · next hc => exact h hc
  · exact hs

theorem grantedWindow_oneCommand (s : State) (hs : OneCommandLaw s) (hw : s.window.waiting = true) :
    ({ granted .window s with window.waiting := false } : State).Engaged
      ∧ ({ granted .window s with window.waiting := false } : State).requestNamed := by
  obtain ⟨busy, sweep, state, restart⟩ := hs.of_waiting hw
  exact ⟨grantedEngaged busy sweep state restart, hs.2 hw⟩

/-- The completion that ends a work leaves none under way. -/
theorem completed_oneCommand (result : Byte) (response : List Byte) (s : State)
    (waiting : s.window.waiting = false) (sweep : s.engine.sweep = none)
    (state : s.topo.state ≠ .committing) (restart : s.window.restart = none) :
    OneCommandLaw (complete result response s) :=
  oneCommandLaw_of_none _ waiting sweep state restart (completes_ne_busy result)

theorem workSweepStep_oneCommand (sw : Sweep) (s : State) (hs : OneCommandLaw s)
    (hsw : s.engine.sweep = some sw) : OneCommandLaw (workSweepStep sw s) := by
  obtain ⟨waiting, state, restart⟩ := hs.of_sweep sw hsw
  unfold workSweepStep
  generalize (stepIndices sw.next).foldl Work.sweepVisit (taking s) = w
  dsimp only
  split
  · exact completed_oneCommand _ _ _ waiting rfl state restart
  · have going : SameWorks s { handOff s w with
        engine.sweep := some (sw.advance s.engine.slots w.slots) } :=
      ⟨rfl, by rw [hsw]; rfl, rfl, rfl, rfl, rfl, rfl⟩
    exact going.oneCommandLaw hs

theorem workCommitComplete_oneCommand (s : State) (hs : OneCommandLaw s)
    (hc : s.topo.state = .committing) : OneCommandLaw (workCommitComplete s) := by
  obtain ⟨waiting, sweep, restart⟩ := hs.of_committing hc
  unfold workCommitComplete
  exact completed_oneCommand _ _ _ waiting sweep (fun h => by cases h) restart

theorem finishRestart_oneCommand (r : Restart) (s : State) (hs : OneCommandLaw s)
    (hr : s.window.restart = some r) : OneCommandLaw (finishRestart r s) := by
  obtain ⟨waiting, sweep, state⟩ := hs.of_restart r hr
  unfold finishRestart
  dsimp only
  split
  · exact completed_oneCommand _ _ _ waiting sweep state rfl
  · exact completed_oneCommand _ _ _ waiting sweep state rfl

theorem clearCauses_oneCommand (r : Restart) (s : State) (hs : OneCommandLaw s)
    (hr : s.window.restart = some r) : OneCommandLaw (clearCauses r s) := by
  have cleared : SameWorks s (clearCauses r s) := ⟨rfl, rfl, rfl, by rw [hr]; rfl, rfl, rfl, rfl⟩
  exact cleared.oneCommandLaw hs

theorem coldReset_oneCommand (s : State) : OneCommandLaw (coldReset s) :=
  oneCommandLaw_of_none _ rfl rfl (fun h => by cases h) rfl (fun h => by cases h)

theorem sampleReset_oneCommand (s : State) (hs : OneCommandLaw s) :
    OneCommandLaw (sampleReset s) := by
  unfold sampleReset
  split
  · exact hs
  · split
    · exact coldReset_oneCommand s
    · split
      · exact hs
      · exact (inReset_core s false).sameWorks.oneCommandLaw hs

theorem sampleInputs_oneCommand (s : State) (low power clk : Bool) (p : Port)
    (hs : OneCommandLaw s) : OneCommandLaw (sampleReset
      { s with resetnLow := low, poweringUp := power, clkPresent := clk, port := p }) :=
  sampleReset_oneCommand _ ((inputs_core s low power clk p).sameWorks.oneCommandLaw hs)

theorem answerWith_works (s : State) (r : Report) (refusal : Option Verdict)
    (work : Work → Work × Verdict) : SameWorks s (answerWith s r refusal work) := by
  unfold answerWith
  split
  · exact (answerReport_core r _ s).sameWorks
  · exact (handOff_works s _).trans (answerReport_core r _ _).sameWorks

theorem reportStep_works (kind : Byte) (work : Report → State → State) (s : State)
    (h : ∀ r u, SameWorks u (work r u)) : SameWorks s (reportStep kind work s) := by
  unfold reportStep
  split
  · split
    · exact (granted_works .link s).trans (h _ _)
    · exact .refl s
  · exact .refl s
  · exact .refl s

theorem grantedPart_works (a : Byte) (linkCode : Option Byte) (lapse : Bool) (s : State) :
    SameWorks s (workPart a linkCode lapse (granted .link s)) :=
  (granted_works .link s).trans ((handOff_works _ _).trans (dequeue_core a _).sameWorks)

/-! ## The works of a step beside the window -/

theorem execSweepStep_oneCommand (s : State) (hs : OneCommandLaw s) :
    ∃ t, execSweepStep s = .next t ∧ OneCommandLaw t := by
  refine ⟨_, rfl, ?_⟩
  split
  · exact hs
  · next sw hsw => exact if_oneCommand _ _ _ hs fun _ => workSweepStep_oneCommand sw s hs hsw

theorem execWarmRestartComplete_oneCommand (part : RestartEnd) (s : State)
    (hs : OneCommandLaw s) : ∃ t, execWarmRestartComplete part s = .next t ∧ OneCommandLaw t := by
  refine ⟨_, rfl, ?_⟩
  split
  · next r hr _ =>
    split
    · exact hs
    · exact clearCauses_oneCommand r s hs hr
  · next r hr _ => exact finishRestart_oneCommand r s hs hr
  · exact hs

theorem execBadCommand_oneCommand (code : Byte) (s : State) (hs : OneCommandLaw s) :
    ∃ t, execBadCommand code s = .next t ∧ OneCommandLaw t := by
  refine ⟨_, rfl, ?_⟩
  split
  · exact hs
  · exact short_oneCommand _ _ s hs fun u hu => hu.complete _ _

/-- OVERRUN gives a command only to a window that is BUSY, which refuses it (R193). -/
theorem execOverrun_oneCommand (s : State) (hs : OneCommandLaw s) :
    ∃ t, execOverrun s = .next t ∧ OneCommandLaw t := by
  refine ⟨_, rfl, if_oneCommand _ _ _ hs fun busy => ?_⟩
  by_cases dropped : s.clocked = false ∨ s.port = .cut
  · rw [giveCommand_dropped _ _ s dropped]
    exact (csnRise_core s).sameWorks.oneCommandLaw hs
  · obtain ⟨clocked, port⟩ := not_or.mp dropped
    rw [giveCommand_busy _ _ s (by simpa using clocked) port busy]
    exact ((csnRise_core s).trans (refuseOverrun_core _)).sameWorks.oneCommandLaw hs

theorem execReplyJudge_works (stop : Bool) (bytes : List Byte) (s : State) :
    ∃ t, execReplyJudge stop bytes s = .next t ∧ SameWorks s t := by
  refine ⟨_, rfl, ?_⟩
  split
  · split
    · exact (discardBytes_core bytes s).sameWorks
    · split
      · exact (discardBytes_core bytes s).sameWorks
      · exact (workReplyJudge_core _ stop bytes s).sameWorks
  · exact .refl s

theorem execReplyWindowClose_works (s : State) :
    ∃ t, execReplyWindowClose s = .next t ∧ SameWorks s t := by
  refine ⟨_, rfl, ?_⟩
  split
  · exact .refl s
  · split
    · exact (workReplyWindowClose_core _ s).sameWorks
    · exact .refl s

theorem execPoll_works (s : State) : ∃ t, execPoll s = .next t ∧ SameWorks s t := by
  refine ⟨_, rfl, ?_⟩
  split
  · split
    · exact (link_core s _).sameWorks
    · split
      · exact (sendPoll_core s).sameWorks
      · exact .refl s
  · exact .refl s

theorem execLapseRequest_works (s : State) : ∃ t, execLapseRequest s = .next t ∧ SameWorks s t := by
  refine ⟨_, rfl, ?_⟩
  split
  · split
    · exact grantedPart_works _ _ _ s
    · exact .refl s
  · exact .refl s
  · exact .refl s

theorem execLinkRaise_works (s : State) : ∃ t, execLinkRaise s = .next t ∧ SameWorks s t := by
  refine ⟨_, rfl, ?_⟩
  split
  · split
    · exact grantedPart_works _ _ _ s
    · exact .refl s
  · exact .refl s
  · exact .refl s

theorem verifyRequest_works (s : State) :
    SameWorks s (workVerifyExpiry { granted .verify s with topo.verify.waiting := false }) :=
  ((granted_works .verify s).trans (verifyWaiting_core _ false).sameWorks).trans
    (handOff_works _ _)

theorem execColdReset_oneCommand (cause : ResetCause) (s : State) (hs : OneCommandLaw s) :
    ∃ t, execColdReset cause s = .next t ∧ OneCommandLaw t := by
  cases cause with
  | resetn => exact ⟨_, rfl, sampleInputs_oneCommand s true s.poweringUp s.clkPresent _ hs⟩
  | powerUp => exact ⟨_, rfl, coldReset_oneCommand _⟩

/-- A step that leaves the works leaves the law. -/
theorem works_oneCommand {o : Host.Outcome State Fault Refusal} {s : State} (hs : OneCommandLaw s)
    (h : ∃ t, o = .next t ∧ SameWorks s t) : ∃ t, o = .next t ∧ OneCommandLaw t := by
  obtain ⟨t, ht, works⟩ := h
  exact ⟨t, ht, works.oneCommandLaw hs⟩

theorem exec_oneCommand (i : Instr) (s : State) (hs : OneCommandLaw s) :
    ∃ t, exec i s = .next t ∧ OneCommandLaw t := by
  cases i with
  | topoBegin => exact ⟨_, rfl, short_oneCommand _ _ s hs workTopoBegin_finishes⟩
  | topoPut => exact ⟨_, rfl, short_oneCommand _ _ s hs workTopoPut_finishes⟩
  | topoCommit engine =>
    exact ⟨_, rfl, request_oneCommand _ engine _ s hs workTopoCommit_finishes (by decide)⟩
  | commitComplete =>
    refine ⟨_, rfl, if_oneCommand _ _ _ hs fun hc => workCommitComplete_oneCommand s hs ?_⟩
    simp only [Bool.and_eq_true, beq_iff_eq] at hc
    exact hc.2
  | groupSet => exact ⟨_, rfl, short_oneCommand _ _ s hs workGroupSet_finishes⟩
  | setLimits engine =>
    exact ⟨_, rfl, request_oneCommand _ engine _ s hs workSetLimits_finishes (by decide)⟩
  | setStamp => exact ⟨_, rfl, short_oneCommand _ _ s hs workSetStamp_finishes⟩
  | setMode => exact ⟨_, rfl, short_oneCommand _ _ s hs workSetMode_finishes⟩
  | grant => exact ⟨_, rfl, short_oneCommand _ _ s hs workGrant_finishes⟩
  | lookup engine =>
    exact ⟨_, rfl, request_oneCommand _ engine _ s hs workLookup_finishes (by decide)⟩
  | get engine =>
    exact ⟨_, rfl, request_oneCommand _ engine _ s hs workGet_finishes (by decide)⟩
  | listOpen engine =>
    exact ⟨_, rfl, request_oneCommand _ engine _ s hs workListOpen_finishes (by decide)⟩
  | listNext engine =>
    exact ⟨_, rfl, request_oneCommand _ engine _ s hs workListNext_finishes (by decide)⟩
  | listClose engine =>
    exact ⟨_, rfl, request_oneCommand _ engine _ s hs workListClose_finishes (by decide)⟩
  | agentInfo => exact ⟨_, rfl, short_oneCommand _ _ s hs workAgentInfo_finishes⟩
  | ack engine =>
    exact ⟨_, rfl, request_oneCommand _ engine _ s hs workAck_finishes (by decide)⟩
  | ackAll engine =>
    exact ⟨_, rfl, request_oneCommand _ engine _ s hs workAckAll_finishes (by decide)⟩
  | clearDomain => exact ⟨_, rfl, giveCommand_oneCommand _ _ s hs workClearDomain_oneCommand⟩
  | sweepStart =>
    refine ⟨_, rfl, if_oneCommand _ _ _ hs fun hg => ?_⟩
    simp only [State.sweepGranted, Bool.and_eq_true, beq_iff_eq] at hg
    obtain ⟨⟨⟨_, waiting⟩, cmd⟩, _⟩ := hg
    obtain ⟨engaged, named⟩ := grantedWindow_oneCommand s hs waiting
    exact workSweepStart_oneCommand _ engaged (named.2 cmd)
  | sweepStep => exact execSweepStep_oneCommand s hs
  | clearSummary => exact ⟨_, rfl, short_oneCommand _ _ s hs workClearSummary_finishes⟩
  | raiseApp engine =>
    exact ⟨_, rfl, request_oneCommand _ engine _ s hs workRaiseApp_finishes (by decide)⟩
  | restoreApp engine =>
    exact ⟨_, rfl, request_oneCommand _ engine _ s hs workRestoreApp_finishes (by decide)⟩
  | warmRestart engine =>
    exact ⟨_, rfl, request_oneCommand _ engine _ s hs workWarmRestart_finishes (by decide)⟩
  | warmRestartComplete part => exact execWarmRestartComplete_oneCommand part s hs
  | badCommand code => exact execBadCommand_oneCommand code s hs
  | overrun => exact execOverrun_oneCommand s hs
  | attnCauseWrite value =>
    exact ⟨_, rfl, (writeByte_core _ value s).sameWorks.oneCommandLaw hs⟩
  | attnEnableWrite value =>
    exact ⟨_, rfl, (writeByte_core _ value s).sameWorks.oneCommandLaw hs⟩
  | argWrite address value =>
    exact ⟨_, rfl, (writeByte_core _ value s).sameWorks.oneCommandLaw hs⟩
  | stampLatch =>
    exact ⟨_, rfl, if_oneCommand _ _ _ hs fun _ =>
      (latchStamp_core s).sameWorks.oneCommandLaw hs⟩
  | coldReset cause => exact execColdReset_oneCommand cause s hs
  | resetRelease =>
    exact ⟨_, rfl, sampleInputs_oneCommand s false false s.clkPresent s.port hs⟩
  | stampTick =>
    exact ⟨_, rfl, if_oneCommand _ _ _ hs fun _ => (tick_core s).sameWorks.oneCommandLaw hs⟩
  | verifyExpiry =>
    exact ⟨_, rfl, if_oneCommand _ _ _ hs fun _ => (expire_core s).sameWorks.oneCommandLaw hs⟩
  | verifyExpiryRequest =>
    exact ⟨_, rfl, if_oneCommand _ _ _ hs fun _ => (verifyRequest_works s).oneCommandLaw hs⟩
  | roundStart =>
    exact ⟨_, rfl, if_oneCommand _ _ _ hs fun _ =>
      ((link_core s _).trans (comeToNext_core _)).sameWorks.oneCommandLaw hs⟩
  | poll => exact works_oneCommand hs (execPoll_works s)
  | replyWindowClose => exact works_oneCommand hs (execReplyWindowClose_works s)
  | replyJudge stop bytes => exact works_oneCommand hs (execReplyJudge_works stop bytes s)
  | reportRaise =>
    exact ⟨_, rfl, (reportStep_works 1 _ s fun r u => answerWith_works u r _ _).oneCommandLaw hs⟩
  | reportRestore =>
    exact ⟨_, rfl, (reportStep_works 2 _ s fun r u => answerWith_works u r _ _).oneCommandLaw hs⟩
  | reportArrive =>
    exact ⟨_, rfl, (reportStep_works 3 _ s fun r u => answerWith_works u r _ _).oneCommandLaw hs⟩
  | reportDepart =>
    exact ⟨_, rfl, (reportStep_works 4 _ s fun r u => answerWith_works u r _ _).oneCommandLaw hs⟩
  | lapseRequest => exact works_oneCommand hs (execLapseRequest_works s)
  | linkRaise => exact works_oneCommand hs (execLinkRaise_works s)
  | windowRequestGrant =>
    refine ⟨_, rfl, if_oneCommand _ _ _ hs fun hg => ?_⟩
    simp only [State.windowGranted, Bool.and_eq_true, beq_iff_eq] at hg
    obtain ⟨engaged, named⟩ := grantedWindow_oneCommand s hs hg.1.2
    exact windowWork_oneCommand _ engaged named
  | clkAbsent => exact ⟨_, rfl, (inputs_core s _ _ false s.port).sameWorks.oneCommandLaw hs⟩
  | clkResumed =>
    exact ⟨_, rfl, sampleInputs_oneCommand s s.resetnLow s.poweringUp true s.port hs⟩

/-- Settles O58: a command is taken only where no work is under way, and every owner completes it or
leaves one work. -/
theorem oneCommandLawKept : Obligations.OneCommandLawKept := by
  unfold Obligations.OneCommandLawKept
  intro s t hs h
  unfold step at h
  split at h
  · cases h
    exact hs
  · next c rest _ =>
    obtain ⟨u, hu, law⟩ := exec_oneCommand c (s.withPending rest) hs
    rw [hu] at h
    cases h
    exact law

end Sys2Proof.Machine

/-!
The rotation of the grants, the values after cold reset and the laws that hold there, the
millisecond, and the steps whose condition does not hold.
-/

namespace Sys2Proof.Machine

/-! ## The rotation -/

/-- Where the engine is open the grant goes to the first waiting source of the rotation (R14). -/
theorem nextGrant_open (s : State) (h : s.engineOpen = true) :
    s.nextGrant = (rotationAfter s.engine.lastGranted).find? s.waits := if_pos h

/-- The first of three sources that waits. -/
theorem find_of_three (a b c : Source) (waits : Source → Bool) :
    [a, b, c].find? waits = if waits a then some a else if waits b then some b
      else if waits c then some c else none := by
  simp only [List.find?]
  cases waits a
  · cases waits b
    · cases waits c <;> rfl
    · rfl
  · rfl

/-- Settles O12. -/
theorem grantsRotate : Obligations.GrantsRotate := by
  unfold Obligations.GrantsRotate
  intro s ho
  rw [nextGrant_open s ho]
  refine ⟨fun h => ?_, fun h => ?_, fun h => ?_⟩
  · rw [h]; exact find_of_three _ _ _ _
  · rw [h]; exact find_of_three _ _ _ _
  · rw [h]; exact find_of_three _ _ _ _

/-! ## After cold reset -/

/-- Settles O4. -/
theorem stateAfterColdReset : Obligations.StateAfterColdReset := by
  unfold Obligations.StateAfterColdReset
  refine ⟨fun i => ?_, rfl, rfl, fun n => ?_, rfl, rfl, rfl, rfl, rfl, rfl, rfl, rfl, rfl, rfl⟩
  · simp [State.reset, Engine.reset, Slot.reset]
  · simp [State.reset, Engine.reset, Cursor.closed]

theorem releaseLaw_reset : ReleaseLaw State.reset := by
  refine ⟨?_, fun h => ?_, fun h => ?_⟩
  · decide
  · cases h
  · cases h

theorem countsLaw_reset : CountsLaw State.reset :=
  fun _ => ⟨counts_reset.symm, (countEntries_reset _).symm⟩

theorem rollUpLaw_reset : RollUpLaw State.reset := by
  intro j l hl
  rw [countEntries_reset, countEntries_reset]
  cases j with
  | zero => cases hl; exact ⟨rfl, rfl⟩
  | succ n => cases hl

theorem sweepLaw_reset : SweepLaw State.reset := by
  intro i e he
  rw [entry_reset] at he
  cases he

theorem pathLaw_reset : PathLaw State.reset := by
  refine ⟨?_, ?_, ?_, ?_⟩ <;> decide

theorem linkLaw_reset : LinkLaw State.reset := by
  refine ⟨⟨List.Pairwise.nil, by decide, by decide, fun x h => ?_, fun a h => ?_, by decide,
    by decide⟩, fun h => ?_, fun h => ?_, fun h => ?_, fun x h => ?_⟩
  · cases h
  · cases h
  · cases h
  · cases h
  · cases h
  · cases h

/-- Settles O60. -/
theorem lawsHoldAfterColdReset : Obligations.LawsHoldAfterColdReset := by
  unfold Obligations.LawsHoldAfterColdReset
  obtain ⟨key, sequence, notice, reserved⟩ := (taking_lawful_iff _).mp taking_lawful_reset
  exact ⟨releaseLaw_reset, countsLaw_reset, key, sequence, notice, reserved, spaceLaw_reset,
    rollUpLaw_reset, sweepLaw_reset, ⟨⟨_, rfl, rfl, rfl, rfl, rfl, rfl⟩, rfl⟩, pathLaw_reset,
    ⟨rfl, fun h => by cases h⟩, linkLaw_reset⟩

/-! ## The millisecond -/

/-- A due expiry stops the timer, so that none is due after it (R65). -/
theorem expire_notDue (s : State) : (expire s).expiryDue = false := rfl

/-- A tick makes a due expiry first, so it is the same from the state after the expiry (log entry
8). -/
theorem tick_expire (s : State) (h : s.expiryDue = true) : tick s = tick (expire s) := by
  have made : expireIfDue s = expire s := if_pos h
  have none_due : expireIfDue (expire s) = expire s := expireIfDue_of_notDue _ (expire_notDue s)
  unfold tick
  rw [made, none_due]

theorem execVerifyExpiry_due (s : State) (hc : s.clocked = true) (h : s.expiryDue = true) :
    execVerifyExpiry s = .next (expire s) := by
  unfold execVerifyExpiry
  rw [if_pos (by rw [hc, h]; rfl)]

theorem execStampTick_clocked (s : State) (hc : s.clocked = true) :
    execStampTick s = .next (tick s) := by
  unfold execStampTick
  rw [if_pos hc]

/-- Settles O40. -/
theorem timeMoves : Obligations.TimeMoves := by
  unfold Obligations.TimeMoves
  intro s hc
  refine ⟨fun h => ?_, fun h => execVerifyExpiry_due s hc h, fun h t ht => ?_⟩
  · refine (execStampTick_clocked s hc).trans ?_
    unfold tick
    rw [expireIfDue_of_notDue s h]
    rfl
  · have hexp : execVerifyExpiry s = .next t := ht
    rw [execVerifyExpiry_due s hc h] at hexp
    cases hexp
    refine ⟨expire_notDue s, ?_⟩
    have hc' : (expire s).clocked = true := hc
    exact (execStampTick_clocked s hc).trans
      ((congrArg _ (tick_expire s h)).trans (execStampTick_clocked _ hc').symm)

/-! ## Steps whose condition does not hold -/

theorem linkGranted_false (s : State) (h : s.nextGrant ≠ some .link) : s.linkGranted = false := by
  unfold State.linkGranted
  simp [h]

/-- A report entry is worked only when the link is granted next (R14). -/
theorem reportStep_notGranted (kind : Byte) (work : Report → State → State) (s : State)
    (h : s.linkGranted = false) : reportStep kind work s = s := by
  unfold reportStep
  split
  · rw [if_neg (by simp [h])]
  · rfl
  · rfl

/-- A report entry is worked only by the step of its kind. -/
theorem reportStep_otherKind (kind : Byte) (work : Report → State → State) (s : State)
    (h : ∀ (r : Report) (rest : List LinkEntry), s.link.queue = .report r :: rest → r.kind ≠ kind) :
    reportStep kind work s = s := by
  unfold reportStep
  split
  · next r rest hq => rw [if_neg fun hk => h r rest hq hk.1]
  · rfl
  · rfl

theorem execLapseRequest_disabled (s : State) (h : s.linkGranted = false
      ∨ ∀ (a : Byte) (c : Option Byte) (rest : List LinkEntry),
        s.link.queue ≠ .part a c true :: rest) :
    execLapseRequest s = .next s := by
  unfold execLapseRequest
  split
  · next a c lapse rest hq =>
    rcases h with h | h
    · rw [if_neg (by simp [h])]
    · have none : lapse = false := by
        by_contra hl
        exact h a c rest (by rw [hq]; simp at hl; rw [hl])
      rw [if_neg (by simp [none])]
  · rfl
  · rfl

theorem execLinkRaise_disabled (s : State) (h : s.linkGranted = false
      ∨ ∀ (a c : Byte) (lapse : Bool) (rest : List LinkEntry),
        s.link.queue ≠ .part a (some c) lapse :: rest) : execLinkRaise s = .next s := by
  unfold execLinkRaise
  split
  · next a c lapse rest hq =>
    rcases h with h | h
    · rw [if_neg (by simp [h])]
    · cases c with
      | none => rfl
      | some c => exact absurd hq (h a c lapse rest)
  · rfl
  · rfl

theorem exec_link_notGranted (s : State) (h : s.nextGrant ≠ some .link) (i : Instr)
    (hi : i ∈ ([.reportRaise, .reportRestore, .reportArrive, .reportDepart, .lapseRequest,
      .linkRaise] : List Instr)) : exec i s = .next s := by
  have notGranted := linkGranted_false s h
  simp only [List.mem_cons, List.not_mem_nil, or_false] at hi
  rcases hi with rfl | rfl | rfl | rfl | rfl | rfl
  · exact congrArg _ (reportStep_notGranted 1 _ s notGranted)
  · exact congrArg _ (reportStep_notGranted 2 _ s notGranted)
  · exact congrArg _ (reportStep_notGranted 3 _ s notGranted)
  · exact congrArg _ (reportStep_notGranted 4 _ s notGranted)
  · exact execLapseRequest_disabled s (.inl notGranted)
  · exact execLinkRaise_disabled s (.inl notGranted)

theorem exec_report_otherKind (s : State) (c : Instr × Byte)
    (hc : c ∈ ([(.reportRaise, 1), (.reportRestore, 2), (.reportArrive, 3), (.reportDepart, 4)] :
      List (Instr × Byte)))
    (h : ∀ (r : Report) (rest : List LinkEntry), s.link.queue = .report r :: rest → r.kind ≠ c.2) :
    exec c.1 s = .next s := by
  simp only [List.mem_cons, List.not_mem_nil, or_false] at hc
  rcases hc with rfl | rfl | rfl | rfl
  · exact congrArg _ (reportStep_otherKind 1 _ s h)
  · exact congrArg _ (reportStep_otherKind 2 _ s h)
  · exact congrArg _ (reportStep_otherKind 3 _ s h)
  · exact congrArg _ (reportStep_otherKind 4 _ s h)

theorem execCommitComplete_disabled (s : State) (h : s.topo.state ≠ .committing) :
    execCommitComplete s = .next s := by
  unfold execCommitComplete
  rw [if_neg (by simp [h])]

theorem execVerifyExpiryRequest_disabled (s : State) (h : s.nextGrant ≠ some .verify) :
    execVerifyExpiryRequest s = .next s := by
  unfold execVerifyExpiryRequest State.verifyGranted
  rw [if_neg (by simp [h])]

theorem execWindowRequestGrant_disabled (s : State) (h : s.nextGrant ≠ some .window) :
    execWindowRequestGrant s = .next s := by
  unfold execWindowRequestGrant State.windowGranted
  rw [if_neg (by simp [h])]

theorem execSweepStart_disabled (s : State)
    (h : s.nextGrant ≠ some .window ∨ s.window.cmd ≠ 0x52) : execSweepStart s = .next s := by
  unfold execSweepStart State.sweepGranted
  rcases h with h | h
  · rw [if_neg (by simp [h])]
  · rw [beq_false_of_ne h, Bool.and_false, Bool.false_and, if_neg Bool.false_ne_true]

theorem execSweepStep_none (s : State) (h : s.engine.sweep = none) : execSweepStep s = .next s := by
  unfold execSweepStep
  rw [h]

/-- A sweep step waits for the one request of its gap (R15, R178). -/
theorem execSweepStep_notDue (s : State) (sw : Sweep) (hsw : s.engine.sweep = some sw)
    (hg : sw.gapTaken = false) (hw : s.link.queue ≠ [] ∨ s.topo.verify.waiting = true) :
    execSweepStep s = .next s := by
  have waits : (s.waits .link || s.waits .verify) = true := by
    unfold State.waits
    rcases hw with hw | hw <;> simp [hw]
  unfold execSweepStep State.sweepStepDue
  rw [hsw]
  dsimp only
  rw [if_neg (by simp [hg, waits])]

theorem execWarmRestartComplete_none (part : RestartEnd) (s : State)
    (h : s.window.restart = none) : execWarmRestartComplete part s = .next s := by
  unfold execWarmRestartComplete
  rw [h]

theorem execPoll_disabled (s : State) (hl : s.link.line ≠ .sending)
    (h : s.topo.state ≠ .loaded ∨ s.link.phase ≠ .calling ∨ s.link.exchange ≠ none
      ∨ s.link.line = .busy) : execPoll s = .next s := by
  have notDue : s.pollDue = false := by
    unfold State.pollDue State.polls
    rcases h with h | h | h | h
    · simp [h]
    · simp [h]
    · simp [h]
    · simp [h]
  unfold execPoll
  rw [notDue, if_neg hl, if_neg Bool.false_ne_true, ite_self]

/-- A round starts in the phases that name one due, and only those (R112, R124). -/
theorem roundStarts_false (l : Link)
    (h : (l.phase ≠ .due ∧ l.phase ≠ .dueAfter ∧ l.phase ≠ .gap 0)
      ∨ ((l.phase = .dueAfter ∨ l.phase = .gap 0) ∧ l.exchange ≠ none)) :
    l.roundStarts = false := by
  unfold Link.roundStarts
  rcases h with ⟨due, dueAfter, gap⟩ | ⟨phase, exchange⟩
  · split
    · next hp => exact absurd hp due
    · next hp => exact absurd hp dueAfter
    · next left hp =>
      have : left ≠ 0 := fun h0 => gap (h0 ▸ hp)
      simp [this]
    · rfl
    · rfl
    · rfl
  · have busy : l.exchange.isNone = false := by simpa [Option.isSome_iff_ne_none] using exchange
    rcases phase with hp | hp
    · rw [hp]
      exact busy
    · rw [hp]
      exact busy

theorem execRoundStart_disabled (s : State)
    (h : s.topo.state ≠ .loaded ∨ s.link.roster = []
      ∨ (s.link.phase ≠ .due ∧ s.link.phase ≠ .dueAfter ∧ s.link.phase ≠ .gap 0)
      ∨ ((s.link.phase = .dueAfter ∨ s.link.phase = .gap 0) ∧ s.link.exchange ≠ none)) :
    execRoundStart s = .next s := by
  have off : (s.clocked && s.polls && s.link.roundStarts) = false := by
    unfold State.polls
    rcases h with h | h | h
    · simp [h]
    · simp [h]
    · simp [roundStarts_false s.link h]
  unfold execRoundStart
  rw [if_neg (by simp [off])]

theorem execVerifyExpiry_disabled (s : State) (h : s.expiryDue = false) :
    execVerifyExpiry s = .next s := by
  unfold execVerifyExpiry
  rw [if_neg (by simp [h])]

theorem execReplyWindowClose_disabled (s : State)
    (h : s.link.exchange = none ∨ s.link.line = .sending) : execReplyWindowClose s = .next s := by
  rcases h with h | h
  · unfold execReplyWindowClose
    rw [h]
  · exact execReplyWindowClose_sending s h

theorem execOverrun_disabled (s : State) (h : s.window.cmdState ≠ .busy) :
    execOverrun s = .next s := by
  unfold execOverrun
  rw [if_neg h]

/-- Settles O2: each row answers through moves, which leave the queue; each disabled form is its
row's own condition. -/
theorem everyStepGoesOn : Obligations.EveryStepGoesOn := by
  unfold Obligations.EveryStepGoesOn
  refine ⟨fun i s => ?_, fun s => ⟨execCommitComplete_disabled s, exec_link_notGranted s,
    exec_report_otherKind s, fun h => execLapseRequest_disabled s (.inr h),
    fun h => execLinkRaise_disabled s (.inr h), execVerifyExpiryRequest_disabled s,
    fun h => ⟨execWindowRequestGrant_disabled s h, execSweepStart_disabled s (.inl h)⟩,
    fun h => execSweepStart_disabled s (.inr h), execSweepStep_none s,
    fun sw hsw hg hw => execSweepStep_notDue s sw hsw hg hw,
    fun h part => execWarmRestartComplete_none part s h, execPoll_disabled s,
    execRoundStart_disabled s, execVerifyExpiry_disabled s, execReplyWindowClose_disabled s,
    fun h stop bytes => execReplyJudge_sending stop bytes s h, execOverrun_disabled s⟩⟩
  obtain ⟨t, ht, moves⟩ := exec_moves i s
  exact ⟨t, ht, moves.pending⟩

end Sys2Proof.Machine

/-!
Retirement and what follows it: the hysteresis check by slot, what no retirement says or spends, and
a visit of a list of indices that retires entries, with the TABLE FULL entries eased between
(R26, R95).
-/

namespace Sys2Proof.Machine

/-! ## Operations without an event -/

/-- The record without its counts. -/
def Location.uncounted (l : Location) : Location := { l with own := 0, below := 0 }

/-- The operation sends no event and spends nothing, and moves the counts of the map alone. -/
structure Work.Silent (w w' : Work) : Prop where
  seqNext : w'.seqNext = w.seqNext
  seqSpent : w'.seqSpent = w.seqSpent
  events : w'.events = w.events
  space : w'.space = w.space
  reserve : w'.reserve = w.reserve
  locs : w'.locs.map Location.uncounted = w.locs.map Location.uncounted

theorem Work.Silent.refl (w : Work) : Work.Silent w w := by constructor <;> rfl

theorem Work.Silent.trans {w w' w'' : Work} (h : Work.Silent w w') (h' : Work.Silent w' w'') :
    Work.Silent w w'' :=
  ⟨h'.seqNext.trans h.seqNext, h'.seqSpent.trans h.seqSpent, h'.events.trans h.events,
    h'.space.trans h.space, h'.reserve.trans h.reserve, h'.locs.trans h.locs⟩

theorem countDown_uncounted (locs : List Location) (a : Nat) :
    (countDown locs a).map Location.uncounted = locs.map Location.uncounted := by
  unfold countDown
  refine List.ext_getElem (by simp) fun n h1 h2 => ?_
  simp [Location.uncounted]

theorem Work.put_silent (w : Work) (i : Fin 128) (e : Entry) : Work.Silent w (w.put i e) := by
  constructor <;> rfl

theorem Work.retireEntry_silent (w : Work) (i : Fin 128) : Work.Silent w (w.retireEntry i) := by
  unfold Work.retireEntry
  split
  · exact .refl w
  · refine ⟨rfl, rfl, rfl, rfl, rfl, ?_⟩
    dsimp only
    split
    · exact countDown_uncounted _ _
    · rfl

theorem Work.restoreWith_silent (retire : Work → Fin 128 → Work)
    (hr : ∀ w i, Work.Silent w (retire w i)) (w : Work) (i : Fin 128) :
    Work.Silent w (w.restoreWith retire i).1 := by
  unfold Work.restoreWith
  split
  · exact .refl w
  · split
    · exact .refl w
    · split
      · exact ⟨rfl, rfl, rfl, rfl, rfl, countDown_uncounted _ _⟩
      · exact hr w i
      · exact .refl w

theorem Work.hysteresisOf_silent (w : Work) (d : Domain) : Work.Silent w (w.hysteresisOf d) := by
  unfold Work.hysteresisOf
  split
  · split
    · exact restoreWith_silent _ retireEntry_silent w _
    · exact .refl w
  · exact .refl w

theorem Work.hysteresis_silent (w : Work) : Work.Silent w w.hysteresis :=
  (hysteresisOf_silent w .unit).trans (hysteresisOf_silent _ .field)

theorem Work.retire_silent (w : Work) (i : Fin 128) : Work.Silent w (w.retire i) := by
  unfold Work.retire
  split
  · exact .refl w
  · exact (retireEntry_silent w i).trans (hysteresis_silent _)

theorem Work.restore_silent (w : Work) (k : Key) : Work.Silent w (w.restore k).1 := by
  unfold Work.restore
  split
  · exact .refl w
  · exact restoreWith_silent _ retire_silent w _

theorem Work.ackEntry_silent (w : Work) (i : Fin 128) (e : Entry) :
    Work.Silent w (w.ackEntry i e) := by
  unfold Work.ackEntry
  split
  · exact put_silent w i _
  · exact .refl w
  · split
    · exact .refl w
    · exact retire_silent w i

theorem Work.foldl_silent (visit : Work → Fin 128 → Work)
    (h : ∀ w i, Work.Silent w (visit w i)) (l : List (Fin 128)) (w : Work) :
    Work.Silent w (l.foldl visit w) := by
  induction l generalizing w with
  | nil => exact .refl w
  | cons i rest ih => exact (h w i).trans (ih _)

theorem ackAll_silent (mask : Byte) (w : Work) : Work.Silent w (ackAll mask w).work := by
  unfold ackAll
  suffices h : ∀ (l : List (Fin 128)) (a : AckAll),
      Work.Silent a.work (l.foldl (AckAll.visit mask) a).work from h indices ⟨w, 0, 0⟩
  intro l
  induction l with
  | nil => exact fun a => .refl _
  | cons i rest ih =>
    refine fun a => Work.Silent.trans ?_ (ih _)
    unfold AckAll.visit
    split
    · exact .refl _
    · split
      · exact Work.ackEntry_silent _ _ _
      · exact .refl _

/-! ## Free counts -/

theorem freeCount_mono {x y : Vector Slot 128}
    (h : ∀ i : Fin 128, i.val < Config.generalSize → x[i].entry = none → y[i].entry = none) :
    freeCount x ≤ freeCount y := by
  rw [freeCount_eq_finRange, freeCount_eq_finRange]
  refine List.countP_mono_left fun i _ hi => ?_
  simp only [Bool.and_eq_true, decide_eq_true_eq, Option.isNone_iff_eq_none] at hi ⊢
  exact ⟨h i hi.2 hi.1, hi.2⟩

theorem freeCount_congr {x y : Vector Slot 128}
    (h : ∀ i : Fin 128, i.val < Config.generalSize → (x[i].entry = none ↔ y[i].entry = none)) :
    freeCount x = freeCount y :=
  le_antisymm (freeCount_mono fun i hi => (h i hi).mp) (freeCount_mono fun i hi => (h i hi).mpr)

theorem usableFree_mono {x y : Vector Slot 128} (h : freeCount x ≤ freeCount y) (reserve : Nat)
    (d : Domain) : usableFree x reserve d ≤ usableFree y reserve d := by
  cases d with
  | unit => exact h
  | field => exact Nat.sub_le_sub_right h reserve

theorem usableFree_congr {x y : Vector Slot 128} (h : freeCount x = freeCount y) (reserve : Nat)
    (d : Domain) : usableFree x reserve d = usableFree y reserve d :=
  le_antisymm (usableFree_mono h.le reserve d) (usableFree_mono h.ge reserve d)

/-- The domain has room enough for its TABLE FULL condition to be restored (R95). -/
def roomFor (slots : Vector Slot 128) (reserve : Nat) (d : Domain) : Bool :=
  decide (Config.fullMargin ≤ usableFree slots reserve d)

theorem roomFor_congr {x y : Vector Slot 128} (h : freeCount x = freeCount y) (reserve : Nat)
    (d : Domain) : roomFor x reserve d = roomFor y reserve d := by
  unfold roomFor
  rw [usableFree_congr h]

theorem roomFor_mono {x y : Vector Slot 128} (h : freeCount x ≤ freeCount y) (reserve : Nat)
    (d : Domain) (hx : roomFor x reserve d = true) : roomFor y reserve d = true := by
  unfold roomFor at hx ⊢
  simp only [decide_eq_true_eq] at hx ⊢
  exact hx.trans (usableFree_mono h reserve d)

/-! ## The eased slot -/

/-- Easing an eased slot does no more (R95). -/
theorem Slot.eased_eased (sl : Slot) (x y : Bool) : (sl.eased x).eased y = sl.eased (x || y) := by
  cases x with
  | false => rw [Slot.eased_false, Bool.false_or]
  | true =>
    rw [Bool.true_or]
    cases y with
    | false => rw [Slot.eased_false]
    | true =>
      cases h : sl.entry with
      | none =>
        have same : sl.eased true = sl := by unfold Slot.eased; rw [h]
        rw [same, same]
      | some e =>
        rw [Slot.eased_true sl e h]
        split
        · next hl => rw [Slot.eased_true sl e h, if_pos hl]
        · next hl =>
          split
          · rw [Slot.eased_true _ _ rfl, if_neg hl]
          · rfl
          · next hs => rw [Slot.eased_true sl e h, if_neg hl, hs]

/-- Easing leaves an entry as it is, clears it, or retires it (R23, R95). -/
theorem Slot.eased_cases (sl : Slot) (b : Bool) : sl.eased b = sl
    ∨ (∃ e, sl.entry = some e ∧ e.latching = false ∧ b = true
        ∧ sl.eased b = { sl with entry := some { e with state := .clearedUnack } })
    ∨ (b = true ∧ (∃ e, sl.entry = some e ∧ e.latching = false ∧ e.state = .activeAck)
        ∧ sl.eased b = ⟨sl.gen + 1, none⟩) := by
  cases b with
  | false => exact .inl (Slot.eased_false sl)
  | true =>
    cases h : sl.entry with
    | none => exact .inl (by unfold Slot.eased; rw [h])
    | some e =>
      rw [Slot.eased_true sl e h]
      split
      · exact .inl rfl
      · next hl =>
        have unlatched : e.latching = false := by simpa using hl
        split
        · exact .inr (.inl ⟨e, rfl, unlatched, rfl, rfl⟩)
        · next hs => exact .inr (.inr ⟨rfl, ⟨e, rfl, unlatched, hs⟩, rfl⟩)
        · exact .inl rfl

theorem Slot.eased_none (sl : Slot) (b : Bool) (h : sl.entry = none) : sl.eased b = sl := by
  unfold Slot.eased
  rw [h]

/-! ## The hysteresis check by slot -/

/-- An operation that leaves the general entries leaves the free count. -/
theorem freeCount_of_general {x y : Vector Slot 128}
    (h : ∀ i : Fin 128, i.val < Config.generalSize → x[i] = y[i]) : freeCount x = freeCount y :=
  freeCount_congr fun i hi => by rw [h i hi]

theorem general_ne_reserved (i : Fin 128) (hi : i.val < Config.generalSize) (d : Domain) :
    tableFullIndex d ≠ i := fun h => tableFullIndex_reserved d (h ▸ hi)

theorem Work.slots_hysteresisOf_general (w : Work) (d : Domain) (j : Fin 128)
    (hj : j.val < Config.generalSize) : (w.hysteresisOf d).slots[j] = w.slots[j] := by
  rw [Work.slots_hysteresisOf, if_neg (general_ne_reserved j hj d)]

theorem Work.freeCount_hysteresisOf (w : Work) (d : Domain) :
    freeCount (w.hysteresisOf d).slots = freeCount w.slots :=
  freeCount_of_general fun j hj => w.slots_hysteresisOf_general d j hj

theorem Work.slots_hysteresis_general (w : Work) (j : Fin 128) (hj : j.val < Config.generalSize) :
    w.hysteresis.slots[j] = w.slots[j] := by
  unfold Work.hysteresis
  rw [Work.slots_hysteresisOf_general _ _ j hj, Work.slots_hysteresisOf_general _ _ j hj]

theorem Work.freeCount_hysteresis (w : Work) : freeCount w.hysteresis.slots = freeCount w.slots :=
  freeCount_of_general fun j hj => w.slots_hysteresis_general j hj

/-- The hysteresis check eases the reserved slot of every domain that has room (R95). -/
theorem Work.slots_hysteresis_reserved (w : Work) (d : Domain) :
    w.hysteresis.slots[tableFullIndex d]
      = (w.slots[tableFullIndex d]).eased (roomFor w.slots w.reserve d) := by
  unfold Work.hysteresis
  rw [Work.slots_hysteresisOf, Work.slots_hysteresisOf]
  cases d with
  | unit =>
    rw [if_neg (by decide), if_pos rfl]
    rfl
  | field =>
    have same := usableFree_congr (w.freeCount_hysteresisOf .unit) w.reserve .field
    rw [if_pos rfl, if_neg (by decide), (w.hysteresisOf_silent .unit).reserve, same]
    rfl

/-! ## A retirement by slot -/

theorem Work.slots_retire_self (w : Work) (i : Fin 128) (e : Entry) (h : w.entry i = some e) :
    (w.retire i).slots[i] = ⟨w.slots[i].gen + 1, none⟩ := by
  have freed := w.slots_retireEntry i i e h
  rw [if_pos rfl] at freed
  rw [Work.retire_eq w i e h]
  rcases general_or_reserved i with general | ⟨d, rfl⟩
  · rw [Work.slots_hysteresis_general _ i general, freed]
  · rw [Work.slots_hysteresis_reserved, freed, Slot.eased_none _ _ rfl]

theorem Work.slots_retire_general (w : Work) (i j : Fin 128) (hij : j ≠ i)
    (hj : j.val < Config.generalSize) : (w.retire i).slots[j] = w.slots[j] := by
  cases h : w.entry i with
  | none =>
    have same : w.retire i = w := by unfold Work.retire; rw [h]
    rw [same]
  | some e =>
    rw [Work.retire_eq w i e h, Work.slots_hysteresis_general _ j hj,
      Work.slots_retireEntry w i j e h, if_neg (Ne.symm hij)]

theorem Work.slots_retire_reserved (w : Work) (i : Fin 128) (e : Entry) (h : w.entry i = some e)
    (d : Domain) (hd : tableFullIndex d ≠ i) : (w.retire i).slots[tableFullIndex d]
      = (w.slots[tableFullIndex d]).eased (roomFor (w.retire i).slots w.reserve d) := by
  rw [Work.retire_eq w i e h, Work.slots_hysteresis_reserved, Work.slots_retireEntry w i _ e h,
    if_neg (Ne.symm hd), (w.retireEntry_silent i).reserve,
    roomFor_congr (Work.freeCount_hysteresis _)]

/-- A retirement of a reserved index frees no general one. -/
theorem Work.freeCount_retire_reserved (w : Work) (d : Domain) :
    freeCount (w.retire (tableFullIndex d)).slots = freeCount w.slots :=
  freeCount_of_general fun j hj =>
    w.slots_retire_general _ j (Ne.symm (general_ne_reserved j hj d)) hj

/-! ## Visits of general indices -/

/-- A visit of one index: what it leaves of the slot there is given by f; where p holds of that slot
an entry is retired, and the TABLE FULL entries are eased where there is room. -/
structure Work.Visits (p : Slot → Bool) (f : Slot → Slot) (w w' : Work) (i : Fin 128) : Prop where
  self : w'.slots[i] = f w.slots[i]
  general : ∀ j : Fin 128, j ≠ i → j.val < Config.generalSize → w'.slots[j] = w.slots[j]
  reserved : ∀ d, w'.slots[tableFullIndex d]
    = (w.slots[tableFullIndex d]).eased (p w.slots[i] && roomFor w'.slots w.reserve d)
  reserve : w'.reserve = w.reserve

/-- What a visit leaves of a slot frees it exactly where it retires the entry. -/
structure Frees (p : Slot → Bool) (f : Slot → Slot) : Prop where
  free : ∀ sl : Slot, sl.entry = none → (f sl).entry = none
  kept : ∀ sl : Slot, p sl = false → (f sl).entry = none → sl.entry = none

theorem Work.Visits.freeCount_le {p : Slot → Bool} {f : Slot → Slot} (hf : Frees p f)
    {w w' : Work} {i : Fin 128} (h : Work.Visits p f w w' i) :
    freeCount w.slots ≤ freeCount w'.slots :=
  freeCount_mono fun j hj hn => by
    by_cases hij : j = i
    · subst hij
      rw [h.self]
      exact hf.free _ hn
    · rw [h.general j hij hj]
      exact hn

theorem Work.Visits.freeCount_eq {p : Slot → Bool} {f : Slot → Slot} (hf : Frees p f)
    {w w' : Work} {i : Fin 128} (h : Work.Visits p f w w' i) (hp : p w.slots[i] = false) :
    freeCount w.slots = freeCount w'.slots :=
  le_antisymm (h.freeCount_le hf) (freeCount_mono fun j hj hn => by
    by_cases hij : j = i
    · subst hij
      rw [h.self] at hn
      exact hf.kept _ hp hn
    · rwa [h.general j hij hj] at hn)

/-- Room that has been found stays, and none is gained where nothing is retired: so easing at each
retirement is easing at the last. -/
theorem room_of_visits (a b r r' : Bool) (mono : r = true → r' = true)
    (same : b = false → r = r') : ((a && r) || (b && r')) = ((a || b) && r') := by
  cases b with
  | false =>
    rw [same rfl]
    simp
  | true =>
    cases a with
    | false => simp
    | true =>
      cases r with
      | false => simp
      | true => simp [mono rfl]

/-- The visits of a list of general indices, one after the other. -/
structure Work.VisitsAll (p : Slot → Bool) (f : Slot → Slot) (w w' : Work) (l : List (Fin 128)) :
    Prop where
  general : ∀ j : Fin 128, j.val < Config.generalSize →
    w'.slots[j] = if j ∈ l then f w.slots[j] else w.slots[j]
  reserved : ∀ d, w'.slots[tableFullIndex d] = (w.slots[tableFullIndex d]).eased
    ((l.any fun i => p w.slots[i]) && roomFor w'.slots w.reserve d)
  reserve : w'.reserve = w.reserve

theorem any_congr_slots (p : Slot → Bool) (x y : Vector Slot 128) (l : List (Fin 128))
    (h : ∀ k ∈ l, x[k] = y[k]) : (l.any fun k => p x[k]) = l.any fun k => p y[k] := by
  induction l with
  | nil => rfl
  | cons k rest ih =>
    rw [List.any_cons, List.any_cons, h k List.mem_cons_self,
      ih fun k' hk => h k' (List.mem_cons_of_mem k hk)]

/-- Nothing is freed by a list of visits that retires nothing. -/
theorem Work.VisitsAll.freeCount_eq {p : Slot → Bool} {f : Slot → Slot} (hf : Frees p f)
    {w w' : Work} {l : List (Fin 128)} (h : Work.VisitsAll p f w w' l)
    (hp : (l.any fun i => p w.slots[i]) = false) : freeCount w.slots = freeCount w'.slots := by
  refine freeCount_congr fun j hj => ?_
  rw [h.general j hj]
  split
  · next hjl =>
    have kept : p w.slots[j] = false := by
      have := List.any_eq_false.mp hp j hjl
      simpa using this
    exact ⟨hf.free _, hf.kept _ kept⟩
  · exact Iff.rfl

theorem Work.VisitsAll.freeCount_le {p : Slot → Bool} {f : Slot → Slot} (hf : Frees p f)
    {w w' : Work} {l : List (Fin 128)} (h : Work.VisitsAll p f w w' l) :
    freeCount w.slots ≤ freeCount w'.slots := by
  refine freeCount_mono fun j hj hn => ?_
  rw [h.general j hj]
  split
  · exact hf.free _ hn
  · exact hn

theorem Work.visitsAll_foldl {p : Slot → Bool} {f : Slot → Slot} (hf : Frees p f)
    (visit : Work → Fin 128 → Work)
    (hv : ∀ w (i : Fin 128), i.val < Config.generalSize → Work.Visits p f w (visit w i) i)
    (l : List (Fin 128)) (hl : ∀ i ∈ l, i.val < Config.generalSize) (nodup : l.Nodup) (w : Work) :
    Work.VisitsAll p f w (l.foldl visit w) l := by
  induction l generalizing w with
  | nil => exact ⟨fun j _ => by simp, fun d => by simp [Slot.eased_false], rfl⟩
  | cons i rest ih =>
    obtain ⟨fresh, nodup⟩ := List.nodup_cons.mp nodup
    have hi := hl i List.mem_cons_self
    have rest_general : ∀ k ∈ rest, k.val < Config.generalSize :=
      fun k hk => hl k (List.mem_cons_of_mem i hk)
    have first := hv w i hi
    have after := ih rest_general nodup (visit w i)
    have others : ∀ k ∈ rest, (visit w i).slots[k] = w.slots[k] := fun k hk =>
      first.general k (fun h => fresh (h ▸ hk)) (rest_general k hk)
    rw [List.foldl_cons]
    refine ⟨fun j hj => ?_, fun d => ?_, after.reserve.trans first.reserve⟩
    · rw [after.general j hj]
      by_cases hij : j = i
      · subst hij
        rw [if_neg fresh, if_pos List.mem_cons_self, first.self]
      · simp only [List.mem_cons, hij, false_or]
        rw [first.general j hij hj]
    · have same := any_congr_slots p (visit w i).slots w.slots rest others
      rw [after.reserved d, first.reserved d, Slot.eased_eased, first.reserve, List.any_cons, same]
      exact congrArg (fun b => Slot.eased b _) (room_of_visits _ _ _ _
        (roomFor_mono (after.freeCount_le hf) _ _)
        fun hp => roomFor_congr (after.freeCount_eq hf (same ▸ hp)) _ _)

/-! ## Retirements where a condition holds -/

/-- A visit that retires an entry of which q holds. -/
def Work.retireIf (q : Entry → Bool) (w : Work) (i : Fin 128) : Work :=
  match w.entry i with
  | some e => if q e then w.retire i else w
  | none => w

/-- What such a visit leaves of the slot there. -/
def Slot.retiredIf (q : Entry → Bool) (sl : Slot) : Slot :=
  if sl.holds q then ⟨sl.gen + 1, none⟩ else sl

theorem Work.retireIf_holds (q : Entry → Bool) (w : Work) (i : Fin 128)
    (h : w.slots[i].holds q = true) : w.retireIf q i = w.retire i ∧ ∃ e, w.entry i = some e := by
  obtain ⟨e, he, hq⟩ := (holds_iff q _).mp h
  refine ⟨?_, e, he⟩
  unfold Work.retireIf
  rw [show w.entry i = some e from he]
  exact if_pos hq

theorem Work.retireIf_not (q : Entry → Bool) (w : Work) (i : Fin 128)
    (h : w.slots[i].holds q = false) : w.retireIf q i = w := by
  unfold Work.retireIf
  split
  · next e he =>
    rw [holds_some q he] at h
    rw [h]
    rfl
  · rfl

theorem frees_retiredIf (q : Entry → Bool) : Frees (Slot.holds q) (Slot.retiredIf q) := by
  refine ⟨fun sl h => ?_, fun sl hp h => ?_⟩
  · unfold Slot.retiredIf
    rw [holds_none q h]
    exact h
  · unfold Slot.retiredIf at h
    rw [hp] at h
    exact h

theorem Work.retireIf_visits (q : Entry → Bool) (w : Work) (i : Fin 128)
    (hi : i.val < Config.generalSize) :
    Work.Visits (Slot.holds q) (Slot.retiredIf q) w (w.retireIf q i) i := by
  cases h : w.slots[i].holds q with
  | false =>
    rw [Work.retireIf_not q w i h]
    refine ⟨?_, fun j _ _ => rfl, fun d => ?_, rfl⟩
    · unfold Slot.retiredIf
      rw [h]
      rfl
    · rw [h, Bool.false_and, Slot.eased_false]
  | true =>
    obtain ⟨same, e, he⟩ := Work.retireIf_holds q w i h
    rw [same]
    refine ⟨?_, fun j hij hj => w.slots_retire_general i j hij hj, fun d => ?_,
      (w.retire_silent i).reserve⟩
    · unfold Slot.retiredIf
      rw [h, Work.slots_retire_self w i e he]
      rfl
    · rw [h, Bool.true_and]
      exact w.slots_retire_reserved i e he d (general_ne_reserved i hi d)

/-- Retirements over general indices (R26, R95). -/
theorem Work.retireIf_general (q : Entry → Bool) (w : Work) (l : List (Fin 128))
    (hl : ∀ i ∈ l, i.val < Config.generalSize) (nodup : l.Nodup) :
    Work.VisitsAll (Slot.holds q) (Slot.retiredIf q) w (l.foldl (Work.retireIf q) w) l :=
  Work.visitsAll_foldl (frees_retiredIf q) _ (fun w i hi => w.retireIf_visits q i hi) l hl nodup w

/-! ### The reserved indices at the end of a list -/

/-- Where q does not look at the state, an eased entry is retired exactly where it was to be, with
the same generation after it. -/
theorem Slot.retiredIf_eased (q : Entry → Bool)
    (hq : ∀ e : Entry, q { e with state := .clearedUnack } = q e) (sl : Slot) (b : Bool) :
    (sl.eased b).retiredIf q = if sl.holds q then ⟨sl.gen + 1, none⟩ else sl.eased b := by
  rcases sl.eased_cases b with h | ⟨e, he, _, _, h⟩ | ⟨_, ⟨e, he, _, _⟩, h⟩
  · rw [h]
    rfl
  · have same : ({ sl with entry := some { e with state := .clearedUnack } } : Slot).holds q
        = sl.holds q := by
      rw [holds_some q he, holds_some q rfl, hq]
    rw [h]
    unfold Slot.retiredIf
    rw [same]
  · rw [h]
    unfold Slot.retiredIf
    rw [holds_none q rfl, if_neg Bool.false_ne_true]
    exact (ite_self _).symm

/-- An entry to be retired that is gone has been retired by a check that found room. -/
theorem Slot.holds_eased (q : Entry → Bool) (sl : Slot) (a r : Bool) :
    (a || (sl.eased (a && r)).holds q) = (a || sl.holds q) := by
  cases a with
  | false => rw [Bool.false_and, Slot.eased_false]
  | true => simp

/-- A visit of a reserved index (R26, R95). -/
theorem Work.retireIf_reserved (q : Entry → Bool) (w : Work) (d : Domain) :
    (w.retireIf q (tableFullIndex d)).slots[tableFullIndex d]
        = (w.slots[tableFullIndex d]).retiredIf q
      ∧ (∀ j : Fin 128, j.val < Config.generalSize →
        (w.retireIf q (tableFullIndex d)).slots[j] = w.slots[j])
      ∧ (∀ d' : Domain, d' ≠ d → (w.retireIf q (tableFullIndex d)).slots[tableFullIndex d']
        = (w.slots[tableFullIndex d']).eased
          ((w.slots[tableFullIndex d]).holds q && roomFor w.slots w.reserve d'))
      ∧ (w.retireIf q (tableFullIndex d)).reserve = w.reserve := by
  unfold Slot.retiredIf
  cases h : (w.slots[tableFullIndex d]).holds q with
  | false =>
    rw [Work.retireIf_not q w _ h]
    exact ⟨rfl, fun j _ => rfl, fun d' _ => by rw [Bool.false_and, Slot.eased_false], rfl⟩
  | true =>
    obtain ⟨same, e, he⟩ := Work.retireIf_holds q w _ h
    rw [same]
    refine ⟨w.slots_retire_self _ e he, fun j hj =>
      w.slots_retire_general _ j (Ne.symm (general_ne_reserved j hj d)) hj, fun d' hd => ?_,
      (w.retire_silent _).reserve⟩
    rw [Bool.true_and, w.slots_retire_reserved _ e he d'
        fun h => hd (tableFullIndex_injective d' d h),
      roomFor_congr (w.freeCount_retire_reserved d)]

/-- What retirements over a list leave of the table: every entry of the list of which q holds is
retired; the other TABLE FULL entries are eased where something was retired and there is room. -/
structure Work.RetiresAll (q : Entry → Bool) (w w' : Work) (l : List (Fin 128)) : Prop where
  general : ∀ j : Fin 128, j.val < Config.generalSize →
    w'.slots[j] = if j ∈ l ∧ w.slots[j].holds q = true then ⟨w.slots[j].gen + 1, none⟩
      else w.slots[j]
  reserved : ∀ d, w'.slots[tableFullIndex d]
    = if tableFullIndex d ∈ l ∧ (w.slots[tableFullIndex d]).holds q = true then
        ⟨(w.slots[tableFullIndex d]).gen + 1, none⟩
      else (w.slots[tableFullIndex d]).eased
        ((l.any fun i => w.slots[i].holds q) && roomFor w'.slots w.reserve d)

theorem Work.VisitsAll.general_retiredIf {q : Entry → Bool} {w w' : Work} {l : List (Fin 128)}
    (h : Work.VisitsAll (Slot.holds q) (Slot.retiredIf q) w w' l) (j : Fin 128)
    (hj : j.val < Config.generalSize) :
    w'.slots[j] = if j ∈ l ∧ w.slots[j].holds q = true then ⟨w.slots[j].gen + 1, none⟩
      else w.slots[j] := by
  rw [h.general j hj]
  unfold Slot.retiredIf
  by_cases hl : j ∈ l
  · simp only [hl, if_true, true_and]
  · simp only [hl, if_false, false_and]

/-- Retirements over general indices alone. -/
theorem Work.retiresAll_general (q : Entry → Bool) (w : Work) (l : List (Fin 128))
    (hl : ∀ i ∈ l, i.val < Config.generalSize) (nodup : l.Nodup) :
    Work.RetiresAll q w (l.foldl (Work.retireIf q) w) l := by
  have visits := w.retireIf_general q l hl nodup
  refine ⟨visits.general_retiredIf, fun d => ?_⟩
  rw [if_neg fun h => tableFullIndex_reserved d (hl _ h.1)]
  exact visits.reserved d

/-- Retirements over general indices, then over both reserved ones. -/
theorem Work.retiresAll_reserved (q : Entry → Bool)
    (hq : ∀ e : Entry, q { e with state := .clearedUnack } = q e) (w : Work) (l : List (Fin 128))
    (hl : ∀ i ∈ l, i.val < Config.generalSize) (nodup : l.Nodup) :
    Work.RetiresAll q w ((l ++ [tableFullIndex .unit, tableFullIndex .field]).foldl
      (Work.retireIf q) w) (l ++ [tableFullIndex .unit, tableFullIndex .field]) := by
  have visits := w.retireIf_general q l hl nodup
  rw [List.foldl_append]
  generalize l.foldl (Work.retireIf q) w = w1 at visits
  obtain ⟨self2, general2, other2, reserve2⟩ := w1.retireIf_reserved q .unit
  simp only [List.foldl_cons, List.foldl_nil]
  generalize w1.retireIf q (tableFullIndex .unit) = w2 at self2 general2 other2 reserve2
  obtain ⟨self3, general3, other3, reserve3⟩ := w2.retireIf_reserved q .field
  generalize w2.retireIf q (tableFullIndex .field) = w3 at self3 general3 other3 reserve3
  have free2 := freeCount_of_general general2
  have free3 := freeCount_of_general general3
  have room1 : ∀ d, roomFor w1.slots w.reserve d = roomFor w3.slots w.reserve d :=
    fun d => roomFor_congr (free2.symm.trans free3.symm) _ d
  have room2 : ∀ d, roomFor w2.slots w.reserve d = roomFor w3.slots w.reserve d :=
    fun d => roomFor_congr free3.symm _ d
  have unit1 := visits.reserved .unit
  have field1 := visits.reserved .field
  have field2 := other2 .field (by decide)
  have unit3 := other3 .unit (by decide)
  rw [visits.reserve] at reserve2
  rw [visits.reserve, room1] at field2
  rw [reserve2, room2] at unit3
  rw [room1] at unit1 field1
  generalize hA : (l.any fun i => w.slots[i].holds q) = a at unit1 field1
  have any_all :
      ((l ++ [tableFullIndex .unit, tableFullIndex .field]).any fun i => w.slots[i].holds q)
        = (a || (w.slots[tableFullIndex .unit].holds q
          || w.slots[tableFullIndex .field].holds q)) := by
    rw [List.any_append, hA]
    simp
  refine ⟨fun j hj => ?_, fun d => ?_⟩
  · have outside : ∀ d, j ≠ tableFullIndex d := fun d => Ne.symm (general_ne_reserved j hj d)
    rw [general3 j hj, general2 j hj, visits.general_retiredIf j hj]
    simp [outside]
  · rw [any_all]
    have member : tableFullIndex d ∈ l ++ [tableFullIndex .unit, tableFullIndex .field] := by
      cases d <;> simp
    have combined : ∀ (r b : Bool), ((a && r) || (b && r)) = ((a || b) && r) :=
      fun r b => (Bool.and_or_distrib_right a b r).symm
    simp only [member, true_and]
    cases d with
    | unit =>
      rw [unit3, self2, unit1, Slot.retiredIf_eased q hq]
      split
      · rfl
      · next hu =>
        have unit_kept : w.slots[tableFullIndex .unit].holds q = false := by simpa using hu
        rw [Slot.eased_eased, combined, field2, field1, Slot.eased_eased, combined, unit1,
          Slot.holds_eased q, unit_kept, Bool.or_false, Bool.false_or, Slot.holds_eased q]
    | field =>
      rw [self3, field2, field1, Slot.eased_eased, combined, unit1, Slot.holds_eased q,
        Slot.retiredIf_eased q hq]
      split
      · rfl
      · next hf =>
        have field_kept : w.slots[tableFullIndex .field].holds q = false := by simpa using hf
        rw [field_kept, Bool.or_false]

end Sys2Proof.Machine

/-!
A window request granted at its taking: the state it answers with, and the answers of ACK, RAISE-APP
refused and RESTORE-APP.
-/

namespace Sys2Proof.Machine

/-! ## A granted request that completes -/

/-- A granted request that changes nothing and completes (R14, R195). -/
theorem complete_atGrant (s : State) (code result : Byte) (response : List Byte) :
    complete result response (s.atGrant code) = s.answered code result response := rfl

theorem cause_kept (c x : Byte) : (c ||| x) &&& c = c := by
  refine BitVec.eq_of_getLsbD_eq fun i hi => ?_
  simp only [BitVec.getLsbD_and, BitVec.getLsbD_or]
  cases c.getLsbD i <;> simp

theorem cause_set (c x : Byte) : (c ||| x) &&& x = x := by
  rw [BitVec.or_comm]
  exact cause_kept x c

/-- A cause set stays set beside the causes set after it. -/
theorem cause_held (c x y : Byte) : (c ||| x ||| y) &&& x = x := by
  rw [BitVec.or_comm c x, BitVec.or_assoc]
  exact cause_kept x _

/-- A granted request that hands off its work and completes (R14, R16, R195). -/
theorem answeredWith_handOff (s : State) (w : Work) (code result : Byte) (response : List Byte) :
    s.answeredWith (complete result response (handOff (s.atGrant code) w))
      code result response := by
  refine ⟨⟨rfl, rfl, rfl, rfl, ?_, rfl, rfl, rfl, rfl, rfl, rfl, rfl, rfl⟩, rfl, rfl, rfl, rfl,
    cause_set _ Cause.done⟩
  rw [complete_window_cause]
  show (s.window.cause ||| _ ||| _ ||| _ ||| _) &&& s.window.cause = s.window.cause
  simp only [BitVec.or_assoc]
  exact cause_kept _ _

/-- A granted request whose work is silent leaves the summary and the sequence counter. -/
theorem silent_handOff (s : State) (w : Work) (code result : Byte) (response : List Byte)
    (h : Work.Silent (taking s) w) :
    (complete result response (handOff (s.atGrant code) w)).summary = s.summary
      ∧ (complete result response (handOff (s.atGrant code) w)).engine.seqNext = s.engine.seqNext
      ∧ (complete result response (handOff (s.atGrant code) w)).engine.seqSpent
        = s.engine.seqSpent := by
  refine ⟨?_, h.seqNext, h.seqSpent⟩
  rw [complete_summary, handOff_summary, h.events]
  rfl

/-! ## ACK -/

theorem Work.ackEntry_activeUnack (w : Work) (i : Fin 128) (e : Entry)
    (h : e.state = .activeUnack) :
    w.ackEntry i e = w.put i { e with state := .activeAck } := by
  unfold Work.ackEntry
  rw [h]

theorem Work.ackEntry_activeAck (w : Work) (i : Fin 128) (e : Entry) (h : e.state = .activeAck) :
    w.ackEntry i e = w := by
  unfold Work.ackEntry
  rw [h]

theorem Work.ackEntry_latched (w : Work) (i : Fin 128) (e : Entry) (h : e.state = .clearedUnack)
    (hl : e.latching = true) : w.ackEntry i e = w := by
  unfold Work.ackEntry
  rw [h]
  exact if_pos hl

theorem Work.ackEntry_cleared (w : Work) (i : Fin 128) (e : Entry) (h : e.state = .clearedUnack)
    (hl : e.latching = false) : w.ackEntry i e = w.retire i := by
  unfold Work.ackEntry
  rw [h]
  exact if_neg (by simp [hl])

theorem Work.slots_put (w : Work) (i j : Fin 128) (e : Entry) :
    (w.put i e).slots[j] = if i = j then ⟨w.slots[i].gen, some e⟩ else w.slots[j] :=
  slots_set_get w.slots i j _

/-- An acknowledgement leaves the general entries beside its own. -/
theorem Work.slots_ackEntry_general (w : Work) (i j : Fin 128) (e : Entry) (hij : j ≠ i)
    (hj : j.val < Config.generalSize) : (w.ackEntry i e).slots[j] = w.slots[j] := by
  unfold Work.ackEntry
  split
  · rw [Work.slots_put, if_neg (Ne.symm hij)]
  · rfl
  · split
    · rfl
    · exact w.slots_retire_general i j hij hj

/-- A handle matches the entry at its index with its generation (R6). -/
theorem handleEntry_of_slot (slots : Vector Slot 128) (index gen : Byte) (i : Fin 128) (e : Entry)
    (hi : i.val = index.toNat) (h : slots[i] = ⟨gen, some e⟩) :
    handleEntry slots index gen = some (i, e) := by
  obtain ⟨n, hn⟩ := i
  have hi : n = index.toNat := hi
  subst hi
  have h : slots[index.toNat] = ⟨gen, some e⟩ := h
  unfold handleEntry
  rw [dif_pos hn, h]
  exact if_pos rfl

theorem handleEntry_none_of_slot (slots : Vector Slot 128) (index gen : Byte) (i : Fin 128)
    (hi : i.val = index.toNat) (h : ∀ e : Entry, slots[i] ≠ ⟨gen, some e⟩) :
    handleEntry slots index gen = none := by
  cases found : handleEntry slots index gen with
  | none => rfl
  | some ie =>
    obtain ⟨j, e⟩ := ie
    obtain ⟨hj, entry, hgen⟩ := handleEntry_some _ _ _ _ _ found
    obtain rfl : i = j := Fin.ext (hi.trans hj.symm)
    refine absurd ?_ (h e)
    rw [← hgen, ← entry]

theorem workAck_outside (u : State) (h : 127 < (u.window.argAt 0).toNat) :
    workAck u = complete 0x02 [] u := if_pos h

theorem workAck_stale (u : State) (h : (u.window.argAt 0).toNat < 128)
    (stale : handleEntry u.engine.slots (u.window.argAt 0) (u.window.argAt 1) = none) :
    workAck u = complete 0x05 [] u := by
  unfold workAck
  dsimp only
  rw [if_neg (by omega), stale]
  rfl

theorem workAck_found (u : State) (i : Fin 128) (e : Entry) (h : (u.window.argAt 0).toNat < 128)
    (found : handleEntry u.engine.slots (u.window.argAt 0) (u.window.argAt 1) = some (i, e)) :
    workAck u = complete (ackAnswer e).1 [u.window.argAt 0, u.window.argAt 1, (ackAnswer e).2]
      (handOff u ((taking u).ackEntry i e)) := by
  unfold workAck
  dsimp only
  rw [if_neg (by omega), found]

theorem exec_ack (s : State) (h : s.takes) (hg : s.grantsWindow) :
    exec (.ack .free) s = .next (workAck (s.atGrant 0x50)) :=
  congrArg _ (giveRequest_free _ _ s h hg)

/-- The state after the ACK of the entry e at index i. -/
def State.acked (s : State) (i : Fin 128) (e : Entry) : State :=
  complete (ackAnswer e).1 [s.arguments.argAt 0, s.arguments.argAt 1, (ackAnswer e).2]
    (handOff (s.atGrant 0x50) ((taking s).ackEntry i e))

theorem acked_slots (s : State) (i : Fin 128) (e : Entry) :
    (s.acked i e).engine.slots = ((taking s).ackEntry i e).slots := rfl

theorem acked_topo (s : State) (i : Fin 128) (e : Entry) :
    (s.acked i e).topo = { s.topo with locs := ((taking s).ackEntry i e).locs } := rfl

theorem acked_answers (s : State) (i : Fin 128) (e : Entry) (result shown : Byte)
    (h : ackAnswer e = (result, shown)) : s.answeredWith (s.acked i e) 0x50 result
      [s.arguments.argAt 0, s.arguments.argAt 1, shown] := by
  unfold State.acked
  rw [h]
  exact answeredWith_handOff s _ 0x50 result _

theorem exec_ack_found (s : State) (h : s.takes) (hg : s.grantsWindow) (i : Fin 128) (e : Entry)
    (hi : i.val = (s.arguments.argAt 0).toNat)
    (found : s.engine.slots[i] = ⟨s.arguments.argAt 1, some e⟩) :
    exec (.ack .free) s = .next (s.acked i e) :=
  (exec_ack s h hg).trans (congrArg _ (workAck_found _ i e
    (Nat.lt_of_le_of_lt (Nat.le_of_eq hi.symm) i.isLt) (handleEntry_of_slot _ _ _ i e hi found)))

/-- Settles O26. -/
theorem ackAnswers : Obligations.AckAnswers := by
  unfold Obligations.AckAnswers
  intro s h hg
  refine ⟨fun outside => ?_, fun i hi => ⟨fun stale => ?_, fun e found => ?_⟩⟩
  · rw [exec_ack s h hg, workAck_outside _ outside, complete_atGrant]
  · rw [exec_ack s h hg, workAck_stale _ (Nat.lt_of_le_of_lt (Nat.le_of_eq hi.symm) i.isLt)
      (handleEntry_none_of_slot _ _ _ i hi stale), complete_atGrant]
  · obtain ⟨summary, seqNext, seqSpent⟩ := silent_handOff s _ 0x50 (ackAnswer e).1
      [s.arguments.argAt 0, s.arguments.argAt 1, (ackAnswer e).2]
      (Work.ackEntry_silent (taking s) i e)
    have gen : s.engine.slots[i].gen = s.arguments.argAt 1 := congrArg Slot.gen found
    have entry : (taking s).entry i = some e := congrArg Slot.entry found
    refine ⟨s.acked i e, exec_ack_found s h hg i e hi found, summary, seqNext, seqSpent,
      fun j hij hj => (taking s).slots_ackEntry_general i j e hij hj, fun state => ?_,
      fun state => ?_, fun state latching => ?_, fun state latching => ?_⟩
    · have work := (taking s).ackEntry_activeUnack i e state
      refine ⟨?_, fun j hij => ?_, ?_, acked_answers s i e _ _ ?_⟩
      · rw [acked_slots, work, Work.slots_put, if_pos rfl, ← gen]
        rfl
      · rw [acked_slots, work, Work.slots_put, if_neg (Ne.symm hij)]
        rfl
      · rw [acked_topo, work]
        rfl
      · unfold ackAnswer
        rw [state]
        rfl
    · have work := (taking s).ackEntry_activeAck i e state
      refine ⟨?_, ?_, acked_answers s i e _ _ ?_⟩
      · rw [acked_slots, work]
        rfl
      · rw [acked_topo, work]
        rfl
      · unfold ackAnswer
        rw [state]
        rfl
    · have work := (taking s).ackEntry_latched i e state latching
      refine ⟨?_, ?_, acked_answers s i e _ _ ?_⟩
      · rw [acked_slots, work]
        rfl
      · rw [acked_topo, work]
        rfl
      · unfold ackAnswer
        rw [state, latching]
        rfl
    · refine ⟨?_, acked_answers s i e _ _ ?_⟩
      · rw [acked_slots, (taking s).ackEntry_cleared i e state latching,
          Work.slots_retire_self _ i e entry, ← gen]
        rfl
      · unfold ackAnswer
        rw [state, latching]
        rfl

/-! ## RAISE-APP refused and RESTORE-APP -/

theorem appGroup_true (g : Byte) (h : 8 ≤ g.toNat) (h' : g.toNat ≤ 31) : appGroup g = true := by
  unfold appGroup
  simp [h, h']

theorem appGroup_false (g : Byte) (h : g.toNat < 8 ∨ 31 < g.toNat) : appGroup g = false := by
  unfold appGroup
  simp only [Bool.and_eq_false_iff, decide_eq_false_iff_not]
  omega

theorem appCheck_badArgument (u : State) (lengthOk : Bool)
    (h : (u.window.argPath 0).wellFormed = false ∨ (u.window.argAt 4).toNat < 8
      ∨ 31 < (u.window.argAt 4).toNat ∨ lengthOk = false) :
    appCheck u lengthOk = Result.badArgument := by
  unfold appCheck
  refine if_pos ?_
  rcases h with path | low | high | length
  · simp [path]
  · simp [appGroup_false _ (.inl low)]
  · simp [appGroup_false _ (.inr high)]
  · simp [length]

/-- A key in form, of a group the controller may name: the check that is left is the group's (R181,
R182). -/
theorem appCheck_group (u : State) (hp : (u.window.argPath 0).wellFormed = true)
    (low : 8 ≤ (u.window.argAt 4).toNat) (high : (u.window.argAt 4).toNat ≤ 31) :
    appCheck u true = if (groupOf u.groups (u.window.argAt 4)).enabled then Result.ok
      else Result.groupDisabled := by
  unfold appCheck
  rw [hp, appGroup_true _ low high]
  rfl

theorem workRaiseApp_refused (u : State) (result : Byte) (ne : result ≠ Result.ok)
    (h : appCheck u (decide ((u.window.argAt 6).toNat ≤ 20)) = result) :
    workRaiseApp u = complete result [] u := by
  unfold workRaiseApp
  dsimp only
  rw [h, if_neg ne]

/-- The checks of RAISE-APP pass (R181). -/
def appChecked (u : State) : Prop :=
  appCheck u (decide ((u.window.argAt 6).toNat ≤ 20)) = Result.ok

theorem workRaiseApp_checked (u : State) (h : appChecked u) :
    workRaiseApp u = complete ((taking u).raise u.window.appRaise).2.result
      (if ((taking u).raise u.window.appRaise).2.result = Result.ok then
        keyView ((taking u).raise u.window.appRaise).1.slots u.window.appKey else [])
      (handOff u ((taking u).raise u.window.appRaise).1) := if_pos h

theorem exec_raiseApp (s : State) (h : s.takes) (hg : s.grantsWindow) :
    exec (.raiseApp .free) s = .next (workRaiseApp (s.atGrant 0x54)) :=
  congrArg _ (giveRequest_free _ _ s h hg)

/-- A raise of a new key with the sequence counter spent (R8). -/
theorem Work.raise_spent (w : Work) (r : Raise) (fresh : findKey w.slots r.key = none)
    (spent : Config.lastSequence < w.seqNext) : w.raise r = (w.refuseSpent, .spent) := by
  unfold Work.raise
  rw [fresh]
  exact if_pos spent

/-- Settles O33. -/
theorem raiseAppRefused : Obligations.RaiseAppRefused := by
  unfold Obligations.RaiseAppRefused
  intro s k h hg hk
  subst hk
  rw [exec_raiseApp s h hg]
  refine ⟨fun bad => ?_, fun path low high length => ⟨fun disabled => ?_,
    fun enabled spent fresh => ?_⟩⟩
  · rw [workRaiseApp_refused _ 0x02 (by decide) (appCheck_badArgument _ _ ?_), complete_atGrant]
    rcases bad with path | low | high | length
    · exact .inl path
    · exact .inr (.inl low)
    · exact .inr (.inr (.inl high))
    · exact .inr (.inr (.inr (decide_eq_false (Nat.not_le.mpr length))))
  · rw [workRaiseApp_refused _ 0x17 (by decide), complete_atGrant]
    have long : decide (((s.atGrant 0x54).window.argAt 6).toNat ≤ 20) = true :=
      decide_eq_true length
    rw [long, appCheck_group (s.atGrant 0x54) path low high]
    exact if_neg (Bool.eq_false_iff.mp disabled)
  · have long : decide (((s.atGrant 0x54).window.argAt 6).toNat ≤ 20) = true :=
      decide_eq_true length
    have checked : appChecked (s.atGrant 0x54) := by
      unfold appChecked
      rw [long, appCheck_group (s.atGrant 0x54) path low high]
      exact if_pos enabled
    have raised := (taking s).raise_spent (s.atGrant 0x54).window.appRaise
      ((findKey_none _ _).mpr fresh) spent
    have same : taking (s.atGrant 0x54) = taking s := rfl
    rw [workRaiseApp_checked _ checked, same, raised]
    refine ⟨_, rfl, rfl, rfl, rfl, rfl, rfl, ?_, answeredWith_handOff s _ 0x54 0x12 []⟩
    rw [complete_window_cause]
    show (s.window.cause ||| 0 ||| 0x08 ||| _ ||| _) &&& 0x08 = 0x08
    rw [BitVec.or_assoc (s.window.cause ||| 0 ||| 0x08)]
    exact cause_held _ 0x08 _

/-! ## RESTORE-APP -/

/-- The index of a key that stands at one index alone (R4). -/
theorem findKey_of_unique (slots : Vector Slot 128) (k : Key) (i : Fin 128) (e : Entry)
    (he : slots[i].entry = some e) (hk : e.key = k)
    (unique : ∀ (j : Fin 128) (f : Entry), slots[j].entry = some f → f.key = k → j = i) :
    findKey slots k = some i := by
  cases found : findKey slots k with
  | none => exact absurd hk ((findKey_none slots k).mp found i e he)
  | some j =>
    obtain ⟨f, hf, hfk⟩ := findKey_some slots k j found
    rw [unique j f hf hfk]

theorem Work.restore_fresh (w : Work) (k : Key) (h : findKey w.slots k = none) :
    w.restore k = (w, .nothing) := by
  unfold Work.restore
  rw [h]

theorem Work.restore_found (w : Work) (k : Key) (i : Fin 128) (h : findKey w.slots k = some i) :
    w.restore k = w.restoreWith Work.retire i := by
  unfold Work.restore
  rw [h]

section
variable (retire : Work → Fin 128 → Work) (w : Work) (i : Fin 128) (e : Entry)

theorem Work.restoreWith_latched (h : w.entry i = some e) (hl : e.latching = true) :
    w.restoreWith retire i = (w, .latched) := by
  unfold Work.restoreWith
  rw [h]
  exact if_pos hl

theorem Work.restoreWith_activeUnack (h : w.entry i = some e) (hl : e.latching = false)
    (hs : e.state = .activeUnack) : w.restoreWith retire i
      = ({ w.put i { e with state := .clearedUnack } with locs := countDown w.locs e.anchor },
        .restored) := by
  unfold Work.restoreWith
  rw [h]
  dsimp only
  rw [if_neg (Bool.eq_false_iff.mp hl), hs]

theorem Work.restoreWith_activeAck (h : w.entry i = some e) (hl : e.latching = false)
    (hs : e.state = .activeAck) : w.restoreWith retire i = (retire w i, .restored) := by
  unfold Work.restoreWith
  rw [h]
  dsimp only
  rw [if_neg (Bool.eq_false_iff.mp hl), hs]

theorem Work.restoreWith_cleared (h : w.entry i = some e) (hl : e.latching = false)
    (hs : e.state = .clearedUnack) : w.restoreWith retire i = (w, .restored) := by
  unfold Work.restoreWith
  rw [h]
  dsimp only
  rw [if_neg (Bool.eq_false_iff.mp hl), hs]

end

/-- A restore at an index leaves the general entries beside it. -/
theorem Work.slots_restoreWith_general (w : Work) (i j : Fin 128) (hij : j ≠ i)
    (hj : j.val < Config.generalSize) : (w.restoreWith Work.retire i).1.slots[j] = w.slots[j] := by
  unfold Work.restoreWith
  split
  · rfl
  · split
    · rfl
    · split
      · exact (w.slots_put i j _).trans (if_neg (Ne.symm hij))
      · exact w.slots_retire_general i j hij hj
      · rfl

theorem restoreResponse_fresh (slots : Vector Slot 128) (k : Key) (h : findKey slots k = none) :
    restoreResponse slots k = [] := by
  unfold restoreResponse
  rw [h]

theorem restoreResponse_found (slots : Vector Slot 128) (k : Key) (i : Fin 128) (e : Entry)
    (h : findKey slots k = some i) (he : slots[i].entry = some e) :
    restoreResponse slots k = [byte i.val, slots[i].gen, restoreState e] := by
  unfold restoreResponse
  rw [h]
  dsimp only
  rw [he]

theorem workRestoreApp_refused (u : State) (result : Byte) (ne : result ≠ Result.ok)
    (h : appCheck u true = result) : workRestoreApp u = complete result [] u := by
  unfold workRestoreApp
  dsimp only
  rw [h, if_neg ne]

/-- The state after RESTORE-APP of a key, its checks passed. -/
def State.restoredApp (s : State) (k : Key) : State :=
  complete ((taking s).restore k).2.result (restoreResponse s.engine.slots k)
    (handOff (s.atGrant 0x55) ((taking s).restore k).1)

theorem workRestoreApp_checked (s : State) (k : Key) (hk : s.arguments.appKey = k)
    (h : appCheck (s.atGrant 0x55) true = Result.ok) :
    workRestoreApp (s.atGrant 0x55) = s.restoredApp k := by
  subst hk
  exact if_pos h

theorem restoredApp_slots (s : State) (k : Key) :
    (s.restoredApp k).engine.slots = ((taking s).restore k).1.slots := rfl

theorem restoredApp_topo (s : State) (k : Key) :
    (s.restoredApp k).topo = { s.topo with locs := ((taking s).restore k).1.locs } := rfl

theorem restoredApp_answers (s : State) (k : Key) (w : Work) (out : Restored) (response : List Byte)
    (h : (taking s).restore k = (w, out)) (hr : restoreResponse s.engine.slots k = response) :
    s.answeredWith (s.restoredApp k) 0x55 out.result response := by
  unfold State.restoredApp
  rw [h, hr]
  exact answeredWith_handOff s w 0x55 out.result response

theorem exec_restoreApp (s : State) (h : s.takes) (hg : s.grantsWindow) :
    exec (.restoreApp .free) s = .next (workRestoreApp (s.atGrant 0x55)) :=
  congrArg _ (giveRequest_free _ _ s h hg)

theorem restoreState_latched (e : Entry) (h : e.latching = true) : restoreState e = e.state.code :=
  if_pos h

theorem restoreState_activeAck (e : Entry) (h : e.latching = false) (hs : e.state = .activeAck) :
    restoreState e = 0 := by
  unfold restoreState
  rw [if_neg (Bool.eq_false_iff.mp h), if_pos hs]

theorem restoreState_other (e : Entry) (h : e.latching = false) (hs : e.state ≠ .activeAck) :
    restoreState e = 3 := by
  unfold restoreState
  rw [if_neg (Bool.eq_false_iff.mp h), if_neg hs]
  rfl

/-- Settles O37. -/
theorem restoreAppAnswers : Obligations.RestoreAppAnswers := by
  unfold Obligations.RestoreAppAnswers
  intro s k h hg hk
  have hkey : s.arguments.appKey = k := hk.symm
  refine ⟨fun bad => ?_, fun path low high => ⟨fun disabled => ?_, fun enabled => ?_⟩⟩
  · subst hk
    rw [exec_restoreApp s h hg, workRestoreApp_refused _ 0x02 (by decide)
      (appCheck_badArgument _ _ ?_), complete_atGrant]
    rcases bad with path | low | high
    · exact .inl path
    · exact .inr (.inl low)
    · exact .inr (.inr (.inl high))
  · subst hk
    rw [exec_restoreApp s h hg, workRestoreApp_refused _ 0x17 (by decide), complete_atGrant]
    rw [appCheck_group (s.atGrant 0x55) path low high]
    exact if_neg (Bool.eq_false_iff.mp disabled)
  · have checked : appCheck (s.atGrant 0x55) true = Result.ok := by
      subst hk
      rw [appCheck_group (s.atGrant 0x55) path low high]
      exact if_pos enabled
    obtain ⟨summary, seqNext, seqSpent⟩ := silent_handOff s _ 0x55
      ((taking s).restore k).2.result (restoreResponse s.engine.slots k)
      (Work.restore_silent (taking s) k)
    refine ⟨s.restoredApp k, ?_, summary, seqNext, seqSpent, fun fresh => ?_,
      fun i e he ek unique => ?_⟩
    · rw [exec_restoreApp s h hg, workRestoreApp_checked s k hkey checked]
    · have none := (findKey_none s.engine.slots k).mpr fresh
      have work := (taking s).restore_fresh k none
      refine ⟨?_, ?_, restoredApp_answers s k _ _ _ work (restoreResponse_fresh _ k none)⟩
      · rw [restoredApp_slots, work]
        rfl
      · rw [restoredApp_topo, work]
        rfl
    · have found := findKey_of_unique s.engine.slots k i e he ek unique
      have work := (taking s).restore_found k i found
      have response := restoreResponse_found _ k i e found he
      refine ⟨fun j hij hj => ?_, fun latching => ?_, fun latching state => ?_,
        fun latching state => ?_, fun latching state => ?_⟩
      · rw [restoredApp_slots, work]
        exact (taking s).slots_restoreWith_general i j hij hj
      · have work := work.trans (Work.restoreWith_latched _ (taking s) i e he latching)
        rw [restoreState_latched e latching] at response
        refine ⟨?_, ?_, restoredApp_answers s k _ _ _ work response⟩
        · rw [restoredApp_slots, work]
          rfl
        · rw [restoredApp_topo, work]
          rfl
      · have work := work.trans (Work.restoreWith_activeUnack _ (taking s) i e he latching state)
        rw [restoreState_other e latching (by simp [state])] at response
        refine ⟨?_, ?_, restoredApp_answers s k _ _ _ work response⟩
        · rw [restoredApp_slots, work]
          exact ((taking s).slots_put i i _).trans (if_pos rfl)
        · rw [restoredApp_topo, work]
          rfl
      · have work := work.trans (Work.restoreWith_activeAck _ (taking s) i e he latching state)
        rw [restoreState_activeAck e latching state] at response
        refine ⟨?_, restoredApp_answers s k _ _ _ work response⟩
        rw [restoredApp_slots, work]
        exact (taking s).slots_retire_self i e he
      · have work := work.trans (Work.restoreWith_cleared _ (taking s) i e he latching state)
        rw [restoreState_other e latching (by simp [state])] at response
        refine ⟨?_, ?_, restoredApp_answers s k _ _ _ work response⟩
        · rw [restoredApp_slots, work]
          rfl
        · rw [restoredApp_topo, work]
          rfl

end Sys2Proof.Machine

/-!
The sweep of CLEAR-DOMAIN: its start, and its steps (R175 to R179).
-/

namespace Sys2Proof.Machine

/-! ## A hand-off without an event -/

theorem cause_zero (c : Byte) : c ||| 0 = c := BitVec.or_zero

/-- A hand-off without an event or a space event (R16). -/
theorem handOff_quiet (s : State) (w : Work) (events : w.events = []) (space : w.space = false) :
    handOff s w = { storeWork s w with
      release := s.release.handOff (fatalHeld w.slots)
      window := { s.window with
        counts := Counts.of w.slots
        cause := s.window.cause
          ||| (if s.release.trips (fatalHeld w.slots) then Cause.trip else 0) } } := by
  unfold handOff handCounts handEvents
  rw [events, space]
  simp only [List.foldl_nil, Bool.false_eq_true, if_false, storeWork_window, cause_zero]
  rfl

/-! ## Marks do not count -/

theorem holds_relabel (h : Entry → Entry) (p : Entry → Bool) (same : ∀ e, p (h e) = p e)
    (sl : Slot) :
    (sl.relabel h).holds p = sl.holds p := by
  cases he : sl.entry with
  | none =>
    have none : (sl.relabel h).entry = none := by unfold Slot.relabel; rw [he]; rfl
    rw [holds_none p none, holds_none p he]
  | some e =>
    have some : (sl.relabel h).entry = some (h e) := by unfold Slot.relabel; rw [he]; rfl
    rw [holds_some p some, holds_some p he, same]

theorem map_relabel_get (slots : Vector Slot 128) (h : Entry → Entry) (i : Fin 128) :
    (slots.map (Slot.relabel h))[i] = slots[i].relabel h := by simp

theorem countEntries_relabel (slots : Vector Slot 128) (h : Entry → Entry) (p : Entry → Bool)
    (same : ∀ e, p (h e) = p e) :
    countEntries (slots.map (Slot.relabel h)) p = countEntries slots p := by
  rw [countEntries_eq_finRange, countEntries_eq_finRange]
  refine congrArg (List.countP · _) (funext fun i => ?_)
  rw [map_relabel_get, holds_relabel h p same]

theorem freeCount_relabel (slots : Vector Slot 128) (h : Entry → Entry) :
    freeCount (slots.map (Slot.relabel h)) = freeCount slots :=
  freeCount_congr fun i _ => by rw [map_relabel_get]; exact Option.map_eq_none_iff

theorem fatalHeld_relabel (slots : Vector Slot 128) (h : Entry → Entry) (label : Entry.Label h) :
    fatalHeld (slots.map (Slot.relabel h)) = fatalHeld slots :=
  countEntries_relabel slots h _ fun e => by rw [label.executed]

theorem countsOf_relabel (slots : Vector Slot 128) (h : Entry → Entry) (label : Entry.Label h) :
    Counts.of (slots.map (Slot.relabel h)) = Counts.of slots := by
  have standing_same : ∀ d, standing (slots.map (Slot.relabel h)) d = standing slots d := fun d =>
    countEntries_relabel slots h _ fun e => by rw [label.domain]
  unfold Counts.of
  rw [standing_same, standing_same, fatalHeld_relabel slots h label, freeCount_relabel]

/-! ## The start of the sweep -/

theorem argAt_zero (w : Window) : w.argAt 0 = w.argCopy[0] := by
  unfold Window.argAt
  rw [List.getD_eq_getElem _ _ (by simp)]
  simp

theorem ofByte_none (b : Byte) (h : 1 < b.toNat) : Domain.ofByte b = none := by
  have zero : b ≠ 0 := by rintro rfl; exact absurd h (by decide)
  have one : b ≠ 1 := by rintro rfl; exact absurd h (by decide)
  unfold Domain.ofByte
  rw [if_neg (by simpa using zero), if_neg (by simpa using one)]

theorem ofByte_some (b : Byte) (h : b.toNat ≤ 1) : ∃ d, Domain.ofByte b = some d := by
  have byte_cases : b = 0 ∨ b = 1 := by
    rcases Nat.le_one_iff_eq_zero_or_eq_one.mp h with h | h
    · exact .inl (BitVec.eq_of_toNat_eq h)
    · exact .inr (BitVec.eq_of_toNat_eq h)
  rcases byte_cases with rfl | rfl
  · exact ⟨.unit, rfl⟩
  · exact ⟨.field, rfl⟩

/-- The start of a sweep (R176). -/
theorem startSweepOf_eq (d : Domain) (s : State) : startSweepOf d s = { s with
    engine := { s.engine with
      slots := s.engine.slots.map (Slot.markFor d (s.engine.seqNext - 1))
      sweep := some
        { domain := d, bound := s.engine.seqNext - 1, next := 0,
          marked := countEntries s.engine.slots (sweepTakes d (s.engine.seqNext - 1)), retired := 0,
          gapTaken := false } }
    topo := { s.topo with locs := clearMarks s.topo.locs d }
    summary := s.summary.setNewFlag d false
    release := s.release.handOff (fatalHeld s.engine.slots)
    window := { s.window with
      counts := Counts.of s.engine.slots
      cause := s.window.cause
        ||| (if s.release.trips (fatalHeld s.engine.slots) then Cause.trip else 0) } } := by
  have fatal := fatalHeld_relabel s.engine.slots _ (Entry.label_markFor d (s.engine.seqNext - 1))
  have counts := countsOf_relabel s.engine.slots _ (Entry.label_markFor d (s.engine.seqNext - 1))
  rw [← fatal, ← counts]
  unfold startSweepOf
  dsimp only
  rw [handOff_quiet s { taking s with
    slots := (taking s).slots.map (Slot.markFor d (s.engine.seqNext - 1))
    locs := clearMarks (taking s).locs d } rfl rfl]
  rfl

theorem startSweepOf_slots (d : Domain) (s : State) (i : Fin 128) :
    (startSweepOf d s).engine.slots[i]
      = s.engine.slots[i].relabel (Entry.markFor d (s.engine.seqNext - 1)) := by
  have slots : (startSweepOf d s).engine.slots
      = s.engine.slots.map (Slot.relabel (Entry.markFor d (s.engine.seqNext - 1))) := rfl
  rw [slots, map_relabel_get]

theorem workSweepStart_of_domain (s : State) (d : Domain)
    (h : Domain.ofByte (s.window.argAt 0) = some d) : workSweepStart s = startSweepOf d s := by
  unfold workSweepStart
  rw [h]

theorem ofByte_code (d : Domain) : Domain.ofByte (if d = .unit then 0 else 1) = some d := by
  cases d <;> rfl

/-- The grant of CLEAR-DOMAIN's request in the step of any window request (R14). -/
theorem windowRequestGrant_clearDomain (s : State) (h : s.window.cmd = 0x52) :
    exec .windowRequestGrant s = exec .sweepStart s := by
  have same : s.sweepGranted = s.windowGranted := by
    unfold State.sweepGranted State.windowGranted
    rw [h]
    simp
  show execWindowRequestGrant s = execSweepStart s
  unfold execWindowRequestGrant execSweepStart
  rw [same, h]
  rfl

theorem execSweepStart_granted (s : State) (d : Domain) (live : s.live = true)
    (waiting : s.window.waiting = true) (cmd : s.window.cmd = 0x52)
    (grant : s.nextGrant = some .window) (domain : Domain.ofByte (s.window.argAt 0) = some d) :
    execSweepStart s
      = .next (startSweepOf d { granted .window s with window.waiting := false }) := by
  have due : s.sweepGranted = true := by
    unfold State.sweepGranted
    rw [live, waiting, cmd, grant]
    rfl
  exact congrArg Host.Outcome.next ((if_pos due).trans (workSweepStart_of_domain _ d domain))

/-- Settles O28. -/
theorem clearDomainStartsItsSweep : Obligations.ClearDomainStartsItsSweep := by
  unfold Obligations.ClearDomainStartsItsSweep
  refine ⟨fun s h => ⟨fun undefined => ?_, fun defined => ?_⟩, windowRequestGrant_clearDomain, ?_⟩
  · show Host.Outcome.next (giveCommand 0x52 workClearDomain s) = _
    have undefined := ofByte_none _ undefined
    rw [giveCommand_takes _ _ s h]
    unfold workClearDomain
    rw [show Domain.ofByte ((s.taken 0x52).window.argAt 0) = none from undefined]
    rfl
  · show Host.Outcome.next (giveCommand 0x52 workClearDomain s) = _
    obtain ⟨d, defined⟩ := ofByte_some _ defined
    rw [giveCommand_takes _ _ s h]
    unfold workClearDomain
    rw [show Domain.ofByte ((s.taken 0x52).window.argAt 0) = some d from defined]
    rfl
  · intro s d marks live waiting cmd grant argument hmarks
    have domain : Domain.ofByte (s.window.argAt 0) = some d := by
      rw [argAt_zero, argument, ofByte_code]
    obtain rfl : marks = sweepTakes d (s.engine.seqNext - 1) := funext hmarks
    refine ⟨_, execSweepStart_granted s d live waiting cmd grant domain, fun i => ?_, ?_⟩
    · rw [startSweepOf_slots]
      exact ⟨rfl, rfl⟩
    · rw [startSweepOf_eq]
      cases d with
      | unit => rfl
      | field => rfl

/-! ## The indices of a step -/

theorem stepIndices_eq (k : Nat) : stepIndices k = ((List.finRange 128).drop (8 * k)).take 8 := rfl

theorem mem_stepIndices (k : Nat) (i : Fin 128) : i ∈ stepIndices k ↔ i.val / 8 = k := by
  rw [stepIndices_eq, List.mem_iff_getElem]
  constructor
  · rintro ⟨n, hn, rfl⟩
    have short : n < 8 := by
      rw [List.length_take] at hn
      omega
    rw [List.getElem_take, List.getElem_drop, List.getElem_finRange]
    show (8 * k + n) / 8 = k
    omega
  · intro h
    have bound := i.isLt
    refine ⟨i.val - 8 * k, ?_, ?_⟩
    · rw [List.length_take, List.length_drop, List.length_finRange]
      omega
    · rw [List.getElem_take, List.getElem_drop, List.getElem_finRange]
      refine Fin.ext ?_
      show 8 * k + (i.val - 8 * k) = i.val
      omega

theorem stepIndices_nodup (k : Nat) : (stepIndices k).Nodup :=
  (List.nodup_finRange 128).sublist ((List.take_sublist _ _).trans (List.drop_sublist _ _))

theorem stepIndices_general (k : Nat) (hk : k < 15) (i : Fin 128) (hi : i ∈ stepIndices k) :
    i.val < Config.generalSize := by
  have place := (mem_stepIndices k i).mp hi
  show i.val < 126
  omega

/-- The general indices of the last step. -/
def lastIndices : List (Fin 128) := (stepIndices 15).take 6

theorem stepIndices_last :
    stepIndices 15 = lastIndices ++ [tableFullIndex .unit, tableFullIndex .field] := by decide

theorem lastIndices_general : ∀ i ∈ lastIndices, i.val < Config.generalSize := by
  have listed : lastIndices = [120, 121, 122, 123, 124, 125] := by decide
  rw [listed]
  decide

theorem lastIndices_nodup : lastIndices.Nodup :=
  (stepIndices_nodup 15).sublist (List.take_sublist _ _)

/-! ## The steps of the sweep -/

theorem sweepVisit_eq : Work.sweepVisit = Work.retireIf (·.sweepMark) := rfl

/-- A step retires the marked entries at its indices (R177). -/
theorem Work.sweepVisits_retireAll (w : Work) (k : Nat) (hk : k < 16) :
    Work.RetiresAll (·.sweepMark) w ((stepIndices k).foldl Work.sweepVisit w) (stepIndices k) := by
  rw [sweepVisit_eq]
  rcases Nat.lt_or_ge k 15 with small | large
  · exact w.retiresAll_general _ _ (stepIndices_general k small) (stepIndices_nodup k)
  · obtain rfl : k = 15 := by omega
    rw [stepIndices_last]
    exact w.retiresAll_reserved (·.sweepMark) (fun e => rfl) _ lastIndices_general lastIndices_nodup

theorem Work.sweepVisits_silent (w : Work) (k : Nat) :
    Work.Silent w ((stepIndices k).foldl Work.sweepVisit w) := by
  refine Work.foldl_silent _ (fun w i => ?_) _ w
  unfold Work.sweepVisit
  split
  · split
    · exact Work.retire_silent w i
    · exact .refl w
  · exact .refl w

/-- What a step of the sweep hands off of its work w, at whichever step it is (R16, R177). -/
structure SweepStepped (s : State) (w : Work) (t : State) : Prop where
  slots : t.engine.slots = w.slots
  summary : t.summary = s.summary
  seqNext : t.engine.seqNext = s.engine.seqNext
  cursors : t.engine.cursors = s.engine.cursors
  counts : t.window.counts = Counts.of t.engine.slots
  release : t.release = s.release.handOff (fatalHeld t.engine.slots)
  state : t.topo.state = s.topo.state
  staged : t.topo.staged = s.topo.staged
  verify : t.topo.verify = s.topo.verify
  groups : t.groups = s.groups
  limits : t.limits = s.limits
  link : t.link = s.link
  clock : t.clock = s.clock

theorem sweepStepped_handOff (s : State) (w : Work) (quiet : Work.Silent (taking s) w)
    (sweep : Option Sweep) (src : Source) : SweepStepped s w
      { handOff s w with engine.sweep := sweep, engine.lastGranted := src } := by
  refine ⟨rfl, ?_, quiet.seqNext, rfl, rfl, rfl, rfl, rfl, rfl, rfl, rfl, rfl, rfl⟩
  show (w.events.foldl Summary.applyEvent (s.summary, 0)).1 = s.summary
  rw [quiet.events]
  rfl

theorem SweepStepped.complete {s t : State} {w : Work} (h : SweepStepped s w t) (result : Byte)
    (response : List Byte) : SweepStepped s w (complete result response t) :=
  ⟨h.slots, h.summary, h.seqNext, h.cursors, h.counts, h.release, h.state, h.staged, h.verify,
    h.groups, h.limits, h.link, h.clock⟩

/-- The table after step k of the sweep (R177). -/
def State.swept (s : State) (k : Nat) : Work := (stepIndices k).foldl Work.sweepVisit (taking s)

theorem workSweepStep_on (sw : Sweep) (s : State) (h : sw.next < 15) : workSweepStep sw s
    = { handOff s (s.swept sw.next) with
        engine.sweep := some (sw.advance s.engine.slots (s.swept sw.next).slots)
        engine.lastGranted := s.engine.lastGranted } := by
  have more : ¬ 16 ≤ sw.next + 1 := by omega
  exact if_neg more

theorem workSweepStep_last (sw : Sweep) (s : State) (h : sw.next = 15) : workSweepStep sw s
    = endSweep (sw.advance s.engine.slots (s.swept sw.next).slots)
        (handOff s (s.swept sw.next)) := by
  have finished : 16 ≤ sw.next + 1 := by omega
  exact if_pos finished

theorem workSweepStep_steps (sw : Sweep) (s : State) (h : sw.next < 16) :
    SweepStepped s (s.swept sw.next) (workSweepStep sw s) := by
  have quiet := (taking s).sweepVisits_silent sw.next
  rcases Nat.lt_or_ge sw.next 15 with small | large
  · rw [workSweepStep_on sw s small]
    exact sweepStepped_handOff s _ quiet _ _
  · rw [workSweepStep_last sw s (by omega)]
    exact (sweepStepped_handOff s _ quiet none .window).complete _ _

theorem execSweepStep_due (s : State) (sw : Sweep) (h : s.engine.sweep = some sw)
    (due : s.sweepStepDue sw = true) : execSweepStep s = .next (workSweepStep sw s) := by
  unfold execSweepStep
  rw [h]
  exact congrArg _ (if_pos due)

/-- The easing of a reserved slot where the condition holds, and where it does not. -/
theorem eased_of_condition (sl sl' : Slot) (b : Bool) (room : Prop) (h : sl' = sl.eased b)
    (hr : room ↔ b = true) : (room → sl' = sl.eased true) ∧ (¬ room → sl' = sl) := by
  refine ⟨fun yes => ?_, fun no => ?_⟩
  · rw [h, hr.mp yes]
  · rw [h, Bool.eq_false_iff.mpr fun hb => no (hr.mpr hb), Slot.eased_false]

theorem roomFor_iff (slots : Vector Slot 128) (reserve : Nat) (d : Domain) :
    roomFor slots reserve d = true ↔ 4 ≤ usableFree slots reserve d := decide_eq_true_iff

theorem swept_room (s : State) (slots : Vector Slot 128) (k : Nat) (d : Domain) :
    (((stepIndices k).any fun i => s.engine.slots[i].holds (·.sweepMark))
        && roomFor slots s.limits.reserve d) = true
      ↔ (∃ i : Fin 128, i.val / 8 = k ∧ s.engine.slots[i].holds (·.sweepMark) = true)
        ∧ 4 ≤ usableFree slots s.limits.reserve d := by
  rw [Bool.and_eq_true, roomFor_iff, List.any_eq_true]
  simp only [mem_stepIndices]

theorem tableFullIndex_step (d : Domain) : (tableFullIndex d).val / 8 = 15 := by
  cases d with
  | unit => rfl
  | field => rfl

/-- Settles O29. -/
theorem sweepStepRetiresMarked : Obligations.SweepStepRetiresMarked := by
  unfold Obligations.SweepStepRetiresMarked
  intro s sw hsweep due bound
  have stepped := workSweepStep_steps sw s bound
  have retires := (taking s).sweepVisits_retireAll sw.next bound
  refine ⟨workSweepStep sw s, _, execSweepStep_due s sw hsweep due, fun i hi => ?_,
    fun d room hroom => ⟨fun last marked => ?_, fun kept => ?_⟩, rfl, stepped.summary,
    stepped.seqNext, stepped.cursors, stepped.counts, stepped.release, fun small => ?_,
    fun last => ?_, stepped.state, stepped.staged, stepped.verify, stepped.groups, stepped.limits,
    stepped.link, stepped.clock⟩
  · rw [stepped.slots]
    have slot := retires.general i hi
    simp only [mem_stepIndices] at slot
    exact slot
  · rw [stepped.slots]
    have slot := retires.reserved d
    rw [if_pos ⟨(mem_stepIndices _ _).mpr ((tableFullIndex_step d).trans last.symm),
      marked⟩] at slot
    exact slot
  · rw [stepped.slots] at hroom ⊢
    have slot := retires.reserved d
    rw [if_neg ?_] at slot
    · exact eased_of_condition _ _ _ room slot (hroom.trans (swept_room s _ _ d).symm)
    · rintro ⟨member, marked⟩
      have step := (mem_stepIndices _ _).mp member
      rw [tableFullIndex_step] at step
      rcases kept with small | unmarked
      · omega
      · exact absurd (marked.symm.trans unmarked) (by decide)
  · rw [workSweepStep_on sw s small]
    exact ⟨rfl, rfl, rfl, rfl⟩
  · rw [workSweepStep_last sw s last]
    exact ⟨rfl, rfl, rfl, rfl, rfl⟩

end Sys2Proof.Machine

/-!
The granted TOPO-COMMIT and the granted WARM-RESTART: the entries they retire, and what they leave
at every owner (R29, R61 to R63, R68, R184).
-/

namespace Sys2Proof.Machine

/-! ## Retirements over the whole table -/

/-- The indices of the general entries, in ascending order. -/
def generalIndices : List (Fin 128) :=
  (List.finRange 128).filter fun i => decide (i.val < Config.generalSize)

theorem generalIndices_general (i : Fin 128) (h : i ∈ generalIndices) :
    i.val < Config.generalSize := by
  unfold generalIndices at h
  simpa using h

theorem generalIndices_nodup : generalIndices.Nodup := (List.nodup_finRange 128).filter _

theorem indices_eq : indices = generalIndices ++ [tableFullIndex .unit, tableFullIndex .field] := by
  have reserved : (List.finRange 128).drop Config.generalSize
      = [tableFullIndex .unit, tableFullIndex .field] := by decide
  unfold generalIndices
  rw [← take_generalSize_finRange, ← reserved, List.take_append_drop]
  rfl

theorem mem_indices (i : Fin 128) : i ∈ indices := List.mem_finRange i

/-- Retirements over every index, where q does not look at the state (R26, R95). -/
theorem Work.retireIf_all (q : Entry → Bool)
    (hq : ∀ e : Entry, q { e with state := .clearedUnack } = q e) (w : Work) :
    Work.RetiresAll q w (indices.foldl (Work.retireIf q) w) indices := by
  rw [indices_eq]
  exact w.retiresAll_reserved q hq _ generalIndices_general generalIndices_nodup

theorem retireField_eq (w : Work) :
    w.retireField = indices.foldl (Work.retireIf (·.domain == .field)) w := by
  refine List.foldl_ext _ _ w fun w i _ => ?_
  unfold Work.retireIf
  cases w.entry i with
  | none => rfl
  | some e => simp

theorem retireUnlatched_eq (w : Work) :
    w.retireUnlatched = indices.foldl (Work.retireIf (!·.latching)) w := by
  refine List.foldl_ext _ _ w fun w i _ => ?_
  unfold Work.retireIf
  cases w.entry i with
  | none => rfl
  | some e => cases h : e.latching <;> simp [h]

theorem Work.retireIf_silent (q : Entry → Bool) (w : Work) (i : Fin 128) :
    Work.Silent w (w.retireIf q i) := by
  unfold Work.retireIf
  split
  · split
    · exact Work.retire_silent w i
    · exact .refl w
  · exact .refl w

section
variable {q : Entry → Bool} {w w' : Work} (h : Work.RetiresAll q w w' indices)
include h

theorem Work.RetiresAll.kept (j : Fin 128) (hj : j.val < Config.generalSize) (e : Entry)
    (he : w.slots[j].entry = some e) (hq : q e = false) : w'.slots[j] = w.slots[j] := by
  rw [h.general j hj, if_neg]
  rintro ⟨_, holds⟩
  rw [holds_some q he, hq] at holds
  cases holds

theorem Work.RetiresAll.gone (j : Fin 128) (hj : j.val < Config.generalSize) (e : Entry)
    (he : w.slots[j].entry = some e) (hq : q e = true) :
    w'.slots[j] = ⟨w.slots[j].gen + 1, none⟩ := by
  rw [h.general j hj, if_pos ⟨mem_indices j, by rw [holds_some q he, hq]⟩]

/-- Of no entry that is left does the condition hold. -/
theorem Work.RetiresAll.left (hq : ∀ e : Entry, q { e with state := .clearedUnack } = q e)
    (j : Fin 128) (e : Entry) (he : w'.slots[j].entry = some e) : q e = false := by
  have of_kept : ∀ (sl : Slot) (f : Entry), sl.entry = some f → ¬ sl.holds q = true → q f = false :=
    fun sl f hf hn => by rw [holds_some q hf] at hn; exact Bool.eq_false_iff.mpr hn
  rcases general_or_reserved j with general | ⟨d, rfl⟩
  · rw [h.general j general] at he
    split at he
    · cases he
    · next hn => exact of_kept _ e he fun holds => hn ⟨mem_indices j, holds⟩
  · rw [h.reserved d] at he
    split at he
    · cases he
    · next hn =>
      have hn := fun holds => hn ⟨mem_indices (tableFullIndex d), holds⟩
      rcases Slot.eased_cases (w.slots[tableFullIndex d]) _ with same | ⟨f, hf, _, _, cleared⟩
        | ⟨_, _, retired⟩
      · exact of_kept _ e (same ▸ he) hn
      · rw [cleared] at he
        cases he
        rw [hq]
        exact of_kept _ f hf hn
      · rw [retired] at he
        cases he

end

/-! ## The granted WARM-RESTART -/

/-- What a silent operation leaves of a record: its counts alone may move (R51). -/
theorem Work.Silent.location {w w' : Work} (h : Work.Silent w w') (i : Nat) (l l' : Location)
    (hl : w.locs[i]? = some l) (hl' : w'.locs[i]? = some l') :
    l' = { l with own := l'.own, below := l'.below } := by
  have same := congrArg (·[i]?) h.locs
  simp only [List.getElem?_map, hl, hl', Option.map_some, Option.some.injEq] at same
  unfold Location.uncounted at same
  injection same
  cases l'
  cases l
  simp_all

theorem Work.Silent.locs_length {w w' : Work} (h : Work.Silent w w') :
    w'.locs.length = w.locs.length := by
  have same := congrArg List.length h.locs
  simpa using same

/-- What the owners beside the table hold once they have restarted (R29, R68, R124, R139, R144). -/
theorem restartOwners_eq (s : State) : restartOwners s = { s with
    release := s.release.hold
    link := s.link.restart (s.topo.state == .loaded)
    engine := { s.engine with cursors := Vector.replicate 4 Cursor.closed }
    summary := ⟨0, false, false⟩
    topo := { s.topo with verify :=
      if s.topo.state = .loaded then ⟨true, s.clock, false⟩
      else ⟨s.topo.verify.running && !s.expiryDue, s.topo.verify.start, false⟩ }
    window := { s.window with
      cause := s.window.cause ||| (if s.expiryDue then Cause.verify else 0) } } := by
  unfold restartOwners restartVerify expireIfDue
  cases due : s.expiryDue with
  | true =>
    by_cases loaded : s.topo.state = .loaded
    · have loaded' : (expire s).topo.state = .loaded := loaded
      simp only [if_true, if_pos loaded, if_pos loaded']
      rfl
    · have loaded' : ¬ (expire s).topo.state = .loaded := loaded
      simp only [if_true, if_neg loaded, if_neg loaded', Bool.not_true, Bool.and_false]
      rfl
  | false =>
    simp only [Bool.false_eq_true, if_false, cause_zero, Bool.not_false, Bool.and_true]
    by_cases loaded : s.topo.state = .loaded
    · simp only [if_pos loaded]
      rfl
    · simp only [if_neg loaded]

theorem ReleaseControl.hold_not_granted (r : ReleaseControl) : r.hold.state ≠ .granted := by
  unfold ReleaseControl.hold
  dsimp only
  split
  · decide
  · next h => exact h

/-- A release on hold does not trip (R132, R139). -/
theorem ReleaseControl.hold_trips (r : ReleaseControl) (fatal : Nat) :
    r.hold.trips fatal = false := by
  unfold ReleaseControl.trips
  simp [r.hold_not_granted]

theorem ReleaseControl.handOff_mode (r : ReleaseControl) (fatal : Nat) :
    (r.handOff fatal).mode = r.mode := by
  unfold ReleaseControl.handOff
  split
  · rfl
  · split
    · rfl
    · rfl

/-- A hand-off grants no release (R132, R133). -/
theorem ReleaseControl.handOff_not_granted (r : ReleaseControl) (fatal : Nat)
    (h : r.state ≠ .granted) : (r.handOff fatal).state ≠ .granted := by
  unfold ReleaseControl.handOff
  split
  · exact h
  · split
    · dsimp only
      split
      · decide
      · exact h
    · exact ReleaseState.noConfusion


/-- The state that WARM-RESTART leaves, its work on the table and the map w (R184). -/
def State.warmRestarted (s : State) (w : Work) : State :=
  { handOff (restartOwners s) w with
    window.restart := some ⟨restartResponse (standingCount s.engine.slots - standingCount w.slots)
      (handOff (restartOwners s) w), false⟩ }

theorem workWarmRestart_eq (s : State) :
    workWarmRestart s = s.warmRestarted (taking s).warmRestart := rfl

theorem warmRestarted_release (s : State) (w : Work) :
    (s.warmRestarted w).release = s.release.hold.handOff (fatalHeld w.slots) := by
  unfold State.warmRestarted
  rw [restartOwners_eq]
  rfl

theorem warmRestarted_link (s : State) (w : Work) :
    (s.warmRestarted w).link = s.link.restart (s.topo.state == .loaded) := by
  unfold State.warmRestarted
  rw [restartOwners_eq]
  rfl

theorem warmRestarted_engine (s : State) (w : Work) : (s.warmRestarted w).engine = { s.engine with
    slots := w.slots, seqNext := w.seqNext, seqSpent := w.seqSpent
    cursors := Vector.replicate 4 Cursor.closed } := by
  unfold State.warmRestarted
  rw [restartOwners_eq]
  rfl

theorem warmRestarted_topo (s : State) (w : Work) : (s.warmRestarted w).topo = { s.topo with
    locs := w.locs
    verify := if s.topo.state = .loaded then ⟨true, s.clock, false⟩
      else ⟨s.topo.verify.running && !s.expiryDue, s.topo.verify.start, false⟩ } := by
  unfold State.warmRestarted
  rw [restartOwners_eq]
  rfl

theorem warmRestarted_summary (s : State) (w : Work) (events : w.events = []) :
    (s.warmRestarted w).summary = ⟨0, false, false⟩ := by
  unfold State.warmRestarted
  rw [restartOwners_eq]
  show (w.events.foldl Summary.applyEvent _).1 = _
  rw [events]
  rfl

theorem warmRestarted_window (s : State) (w : Work) (events : w.events = [])
    (space : w.space = false) : (s.warmRestarted w).window = { s.window with
      counts := Counts.of w.slots
      cause := s.window.cause ||| (if s.expiryDue then Cause.verify else 0)
      restart := some ⟨[byte (standingCount s.engine.slots - standingCount w.slots),
        byte (countEntries w.slots (·.latching)), byte (fatalHeld w.slots),
        (s.release.hold.handOff (fatalHeld w.slots)).state.code, s.topo.state.code], false⟩ } := by
  unfold State.warmRestarted
  rw [restartOwners_eq, handOff_quiet _ w events space]
  dsimp only
  rw [ReleaseControl.hold_trips, if_neg Bool.false_ne_true, cause_zero]
  rfl

theorem warmRestarted_beside (s : State) (w : Work) : (s.warmRestarted w).port = s.port
    ∧ (s.warmRestarted w).groups = s.groups ∧ (s.warmRestarted w).limits = s.limits
    ∧ (s.warmRestarted w).clock = s.clock := by
  unfold State.warmRestarted
  rw [restartOwners_eq]
  exact ⟨rfl, rfl, rfl, rfl⟩

/-! ### The table and the map -/

theorem Work.retireUnlatched_all (w : Work) :
    Work.RetiresAll (!·.latching) w w.retireUnlatched indices := by
  rw [retireUnlatched_eq]
  exact w.retireIf_all (!·.latching) fun e => rfl

theorem Work.retireUnlatched_silent (w : Work) : Work.Silent w w.retireUnlatched := by
  rw [retireUnlatched_eq]
  exact Work.foldl_silent _ (Work.retireIf_silent _) _ w

/-- The table and the map of WARM-RESTART, after its retirements. -/
theorem Work.warmRestart_eq (w : Work) :
    w.warmRestart.slots = w.retireUnlatched.slots.map Slot.unmark
      ∧ w.warmRestart.locs = w.retireUnlatched.locs.mapIdx Location.restart
      ∧ w.warmRestart.events = w.retireUnlatched.events
      ∧ w.warmRestart.space = w.retireUnlatched.space
      ∧ w.warmRestart.seqNext = w.retireUnlatched.seqNext
      ∧ w.warmRestart.seqSpent = w.retireUnlatched.seqSpent := by
  unfold Work.warmRestart
  generalize w.retireUnlatched = w1
  exact ⟨rfl, rfl, rfl, rfl, rfl, rfl⟩

theorem Slot.entry_of_relabel (sl : Slot) (h : Entry → Entry) (e : Entry)
    (he : (sl.relabel h).entry = some e) : ∃ f, sl.entry = some f ∧ h f = e :=
  Option.map_eq_some_iff.mp he

theorem Work.slots_warmRestart (w : Work) (i : Fin 128) :
    w.warmRestart.slots[i] = w.retireUnlatched.slots[i].relabel Entry.unmark := by
  rw [w.warmRestart_eq.1, Slot.unmark_eq, map_relabel_get]

theorem Work.warmRestart_latching (w : Work) (i : Fin 128) (hi : i.val < Config.generalSize)
    (e : Entry) (he : w.slots[i].entry = some e) (h : e.latching = true) :
    w.warmRestart.slots[i] = ⟨w.slots[i].gen, some { e with sweepMark := false }⟩ := by
  rw [Work.slots_warmRestart, w.retireUnlatched_all.kept i hi e he (by rw [h]; rfl)]
  unfold Slot.relabel
  rw [he]
  rfl

theorem Work.warmRestart_unlatched (w : Work) (i : Fin 128) (hi : i.val < Config.generalSize)
    (e : Entry) (he : w.slots[i].entry = some e) (h : e.latching = false) :
    w.warmRestart.slots[i] = ⟨w.slots[i].gen + 1, none⟩ := by
  rw [Work.slots_warmRestart, w.retireUnlatched_all.gone i hi e he (by rw [h]; rfl)]
  rfl

theorem Work.warmRestart_left (w : Work) (i : Fin 128) (e : Entry)
    (he : w.warmRestart.slots[i].entry = some e) : e.latching = true ∧ e.sweepMark = false := by
  rw [Work.slots_warmRestart] at he
  obtain ⟨f, hf, rfl⟩ := Slot.entry_of_relabel _ _ _ he
  have kept := w.retireUnlatched_all.left (fun e => rfl) i f hf
  have latching : f.latching = true := by simpa using kept
  exact ⟨latching, rfl⟩

theorem Work.warmRestart_location (w : Work) (i : Nat) (l l' : Location) (hl : w.locs[i]? = some l)
    (hl' : w.warmRestart.locs[i]? = some l') : l' = { l with
      presence := if i = 0 then l.presence else .unverified, uMark := false, fMark := false,
      own := l'.own, below := l'.below } := by
  obtain ⟨_, restarted, _⟩ := w.warmRestart_eq
  rw [restarted, List.getElem?_mapIdx] at hl'
  obtain ⟨m, hm, rfl⟩ := Option.map_eq_some_iff.mp hl'
  have same := w.retireUnlatched_silent.location i l m hl hm
  unfold Location.restart
  rw [same]

theorem Work.warmRestart_locs_length (w : Work) : w.warmRestart.locs.length = w.locs.length := by
  obtain ⟨_, restarted, _⟩ := w.warmRestart_eq
  rw [restarted, List.length_mapIdx, w.retireUnlatched_silent.locs_length]

theorem Link.restart_phase (l : Link) (state : TopoState) :
    (l.restart (state == .loaded)).phase
      = if state = .loaded ∧ l.roster ≠ [] then .dueAfter else .stopped := by
  unfold Link.restart
  simp

theorem exec_warmRestart (s : State) (h : s.takes) (hg : s.grantsWindow) :
    exec (.warmRestart .free) s
      = .next ((s.atGrant 0x60).warmRestarted (taking s).warmRestart) :=
  congrArg _ (giveRequest_free _ _ s h hg)

/-- Settles O38. -/
theorem warmRestartAtItsGrant : Obligations.WarmRestartAtItsGrant := by
  unfold Obligations.WarmRestartAtItsGrant
  intro s h hg
  have quiet := (taking s).retireUnlatched_silent
  obtain ⟨_, _, events, space, seqNext, seqSpent⟩ := (taking s).warmRestart_eq
  rw [quiet.events] at events
  rw [quiet.space] at space
  rw [quiet.seqNext] at seqNext
  rw [quiet.seqSpent] at seqSpent
  have latching := (taking s).warmRestart_latching
  have unlatched := (taking s).warmRestart_unlatched
  have left := (taking s).warmRestart_left
  have location := (taking s).warmRestart_location
  have length := (taking s).warmRestart_locs_length
  refine ⟨_, exec_warmRestart s h hg, ?_⟩
  generalize (taking s).warmRestart = w at *
  obtain ⟨port, groups, limits, clock⟩ := warmRestarted_beside (s.atGrant 0x60) w
  rw [warmRestarted_release, warmRestarted_link, warmRestarted_engine, warmRestarted_topo,
    warmRestarted_summary _ w events, warmRestarted_window _ w events space]
  refine ⟨ReleaseControl.handOff_mode _ _,
    ReleaseControl.handOff_not_granted _ _ (ReleaseControl.hold_not_granted _),
    ReleaseControl.handOff_fatalCopy _ _, rfl, rfl, rfl, rfl, rfl, Link.restart_phase _ _,
    fun i e hi he => ⟨latching i hi e he, unlatched i hi e he⟩, left, rfl, seqNext, seqSpent, rfl,
    rfl, length, location, fun loaded => if_pos loaded, fun other => if_neg other, rfl, rfl, rfl,
    rfl,
    rfl, rfl, rfl, port, rfl, groups, limits, clock⟩

end Sys2Proof.Machine

/-!
TOPO-COMMIT at its grant: the checks, the FIELD entries retired, the map installed (R60 to R63).
-/

namespace Sys2Proof.Machine

/-! ## The table of a commit -/

theorem Work.retireField_all (w : Work) :
    Work.RetiresAll (·.domain == .field) w w.retireField indices := by
  rw [retireField_eq]
  exact w.retireIf_all (·.domain == .field) fun e => rfl

theorem Work.retireField_silent (w : Work) : Work.Silent w w.retireField := by
  rw [retireField_eq]
  exact Work.foldl_silent _ (Work.retireIf_silent _) _ w

/-- The table once the kept entries have moved to the root (R62). -/
def Work.rooted (w : Work) : Vector Slot 128 := w.slots.map Slot.toRoot

theorem Work.rooted_get (w : Work) (i : Fin 128) :
    w.rooted[i] = w.slots[i].relabel Entry.toRoot := by
  unfold Work.rooted
  rw [Slot.toRoot_eq, map_relabel_get]

theorem Domain.eq_unit (d : Domain) (h : (d == .field) = false) : d = .unit := by
  cases d with
  | unit => rfl
  | field => cases h

/-- What a commit keeps is UNIT, at the root, and unmarked (R62). -/
theorem Work.rooted_left (w : Work) (i : Fin 128) (e : Entry)
    (he : w.retireField.rooted[i].entry = some e) :
    e.domain = .unit ∧ e.anchor = 0 ∧ e.sweepMark = false := by
  rw [Work.rooted_get] at he
  obtain ⟨f, hf, rfl⟩ := Slot.entry_of_relabel _ _ _ he
  have kept := w.retireField_all.left (fun e => rfl) i f hf
  exact ⟨Domain.eq_unit f.domain kept, rfl, rfl⟩

theorem Work.rooted_unit (w : Work) (i : Fin 128) (hi : i.val < Config.generalSize) (e : Entry)
    (he : w.slots[i].entry = some e) (h : e.domain = .unit) :
    w.retireField.rooted[i]
      = ⟨w.slots[i].gen, some { e with anchor := 0, sweepMark := false }⟩ := by
  rw [Work.rooted_get, w.retireField_all.kept i hi e he (by rw [h]; rfl)]
  unfold Slot.relabel
  rw [he]
  rfl

theorem Work.rooted_field (w : Work) (i : Fin 128) (hi : i.val < Config.generalSize) (e : Entry)
    (he : w.slots[i].entry = some e) (h : e.domain = .field) :
    w.retireField.rooted[i] = ⟨w.slots[i].gen + 1, none⟩ := by
  rw [Work.rooted_get, w.retireField_all.gone i hi e he (by rw [h]; rfl)]
  rfl

theorem Work.rooted_free (w : Work) : freeCount w.rooted = freeCount w.slots := by
  unfold Work.rooted
  rw [Slot.toRoot_eq, freeCount_relabel]

/-- Some entry stands of which p holds exactly when their count is above 0. -/
theorem any_holds (slots : Vector Slot 128) (p : Entry → Bool) :
    (indices.any fun i => slots[i].holds p) = decide (0 < countEntries slots p) := by
  rw [countEntries_eq_finRange, Bool.eq_iff_iff, decide_eq_true_iff, List.countP_pos_iff,
    List.any_eq_true]
  rfl

/-- The TABLE FULL entries after a commit, where both are UNIT conditions (R62, R95). -/
theorem Work.rooted_reserved (w : Work) (d : Domain)
    (units : ∀ (x : Domain) (e : Entry), w.slots[tableFullIndex x].entry = some e →
      e.domain = .unit) : w.retireField.rooted[tableFullIndex d]
      = ((w.slots[tableFullIndex d]).eased (decide (0 < standing w.slots .field
          ∧ 4 ≤ usableFree w.retireField.rooted w.reserve d))).relabel Entry.toRoot := by
  have outside : ¬ (tableFullIndex d ∈ indices
      ∧ (w.slots[tableFullIndex d]).holds (·.domain == .field) = true) := by
    rintro ⟨_, holds⟩
    obtain ⟨e, he, hd⟩ := (holds_iff _ _).mp holds
    rw [units d e he] at hd
    cases hd
  have slot := w.retireField_all.reserved d
  rw [if_neg outside, any_holds] at slot
  rw [Work.rooted_get, slot, usableFree_congr w.retireField.rooted_free, Bool.decide_and]
  rfl

/-! ## The map installed -/

theorem installMap_length (staged : List Staged) (active : Nat) :
    (installMap staged active).length = staged.length := by
  cases staged with
  | nil => rfl
  | cons x rest => simp [installMap]

/-- A staged record as the active record of its index (R63). -/
theorem installMap_get (staged : List Staged) (active : Nat) (i : Nat) (x : Staged)
    (h : staged[i]? = some x) : (installMap staged active)[i]? = some
      { path := x.path, level := x.level, parent := x.parent, kind := x.kind, agent := x.agent,
        limit := x.limit, presence := if i = 0 then .present else .unverified,
        own := if i = 0 then active else 0, below := 0, uMark := false, fMark := false } := by
  cases staged with
  | nil => cases h
  | cons y rest =>
    cases i with
    | zero =>
      cases h
      rfl
    | succ n =>
      have rest_get : rest[n]? = some x := h
      show (rest.map fun y => y.install .unverified 0)[n]? = _
      rw [List.getElem?_map, rest_get]
      rfl

/-! ## The commit at every owner -/

/-- The state that a commit leaves, its work on the table w. -/
def State.committed (s : State) (w : Work) : State :=
  { storeWork (stopVerify (expireIfDue s)) { w with slots := w.rooted } with
    engine.cursors := Vector.replicate 4 Cursor.closed
    topo.state := .committing
    topo.locs := installMap s.topo.staged (countEntries w.rooted (·.state.active))
    topo.staged := [Staged.root]
    topo.commitRetired := standing s.engine.slots .field
    link := s.link.atCommit }

theorem commitWork_eq (s : State) : commitWork s = s.committed (taking s).retireField := by
  unfold commitWork
  generalize (taking s).retireField = w
  rfl

theorem expireIfDue_eq (s : State) : expireIfDue s = { s with
    topo := { s.topo with verify := { s.topo.verify with
      running := s.topo.verify.running && !s.expiryDue
      waiting := s.topo.verify.waiting || s.expiryDue } }
    window := { s.window with
      cause := s.window.cause ||| (if s.expiryDue then Cause.verify else 0) } } := by
  unfold expireIfDue
  cases s.expiryDue with
  | true =>
    simp only [if_true, Bool.not_true, Bool.and_false, Bool.or_true]
    rfl
  | false =>
    simp only [Bool.false_eq_true, if_false, Bool.not_false, Bool.and_true, Bool.or_false,
      cause_zero]

/-- What a commit leaves of each owner (R61 to R63). -/
theorem committed_eq (s : State) (w : Work) : s.committed w = { s with
    engine := { s.engine with
      slots := w.rooted, seqNext := w.seqNext, seqSpent := w.seqSpent
      cursors := Vector.replicate 4 Cursor.closed }
    topo := {
      state := .committing
      locs := installMap s.topo.staged (countEntries w.rooted (·.state.active))
      staged := [Staged.root]
      commitRetired := standing s.engine.slots .field
      verify := ⟨false, s.topo.verify.start, false⟩ }
    link := s.link.atCommit
    window := { s.window with
      cause := s.window.cause ||| (if s.expiryDue then Cause.verify else 0) } } := by
  unfold State.committed
  rw [expireIfDue_eq]
  rfl

theorem exec_topoCommit (s : State) (h : s.takes) (hg : s.grantsWindow) :
    exec (.topoCommit .free) s = .next (workTopoCommit (s.atGrant 0x12)) :=
  congrArg _ (giveRequest_free _ _ s h hg)

theorem workTopoCommit_run (u : State) (h : u.release.mode ≠ .hold) :
    workTopoCommit u = complete 0x03 [] u := if_pos h

theorem workTopoCommit_latched (u : State) (h : u.release.mode = .hold)
    (latched : 0 < countEntries u.engine.slots fun e => e.domain == .field && e.latching) :
    workTopoCommit u = complete 0x09 [] u := by
  unfold workTopoCommit
  rw [if_neg (not_not.mpr h), if_pos latched]
  rfl

theorem workTopoCommit_passes (u : State) (h : u.release.mode = .hold)
    (none : countEntries u.engine.slots (fun e => e.domain == .field && e.latching) = 0) :
    workTopoCommit u = u.committed (taking u).retireField := by
  unfold workTopoCommit
  rw [if_neg (not_not.mpr h), if_neg (by omega), commitWork_eq]

/-- Settles O14. -/
theorem topoCommitAtItsGrant : Obligations.TopoCommitAtItsGrant := by
  unfold Obligations.TopoCommitAtItsGrant
  intro s h hg
  refine ⟨fun run => ?_, fun hold => ⟨fun latched => ?_, fun unlatched => ?_⟩⟩
  · rw [exec_topoCommit s h hg, workTopoCommit_run, complete_atGrant]
    show s.release.mode ≠ .hold
    rw [run]
    decide
  · rw [exec_topoCommit s h hg, workTopoCommit_latched (s.atGrant 0x12) hold, complete_atGrant]
    obtain ⟨i, e, he, field, latching⟩ := latched
    refine Nat.pos_of_ne_zero fun none => ?_
    have not := (countEntries_eq_zero s.engine.slots _).mp none i e he
    rw [field, latching] at not
    cases not
  · have none : countEntries s.engine.slots (fun e => e.domain == .field && e.latching) = 0 := by
      refine (countEntries_eq_zero _ _).mpr fun i e he => ?_
      cases domain : e.domain with
      | unit => rfl
      | field => rw [unlatched i e he domain]; rfl
    have quiet := (taking s).retireField_silent
    have left := (taking s).rooted_left
    have unit := (taking s).rooted_unit
    have field := (taking s).rooted_field
    have reserved := (taking s).rooted_reserved
    have seqNext : (taking s).retireField.seqNext = s.engine.seqNext := quiet.seqNext
    refine ⟨(s.atGrant 0x12).committed (taking s).retireField, ?_, ?_⟩
    · rw [exec_topoCommit s h hg, workTopoCommit_passes (s.atGrant 0x12) hold none]
      rfl
    generalize (taking s).retireField = w at *
    rw [committed_eq]
    refine ⟨rfl, rfl, left, fun i e hi he => ⟨unit i hi e he, field i hi e he⟩, ?_, seqNext, rfl,
      installMap_length _ _, installMap_get _ _, rfl, rfl, rfl, rfl, ?_, rfl, rfl, rfl, rfl, rfl,
      rfl,
      rfl, rfl, rfl, rfl, rfl⟩
    · intro d sl units hsl
      subst hsl
      exact reserved d units
    · intro x hx
      obtain ⟨y, _, rfl⟩ := List.mem_map.mp hx
      rfl

end Sys2Proof.Machine

/-!
RAISE-APP that makes, repeats or reactivates an entry (R17 to R22, R181).
-/

namespace Sys2Proof.Machine

/-! ## The Summary Unit at one event -/

/-- The causes of the NEW flags that rise from one state of the Summary Unit to another (R143). -/
def newCauses (u u' : Summary) : Byte :=
  (if u'.unitNew = true ∧ u.unitNew = false then 0x01 else 0)
    ||| (if u'.fieldNew = true ∧ u.fieldNew = false then 0x02 else 0)

theorem newCauses_same (u u' : Summary) (unit : u'.unitNew = u.unitNew)
    (field : u'.fieldNew = u.fieldNew) : newCauses u u' = 0 := by
  unfold newCauses
  rw [unit, field, if_neg (fun h => absurd (h.1.symm.trans h.2) (by decide)),
    if_neg (fun h => absurd (h.1.symm.trans h.2) (by decide))]
  rfl

/-- The Summary Unit after an event (R142, R143). -/
theorem applyEvent_summary (u : Summary) (c : Byte) (v : Event) : (Summary.applyEvent (u, c) v).1 =
    { word := u.word ||| ((1 : BitVec 16) <<< v.bit.toNat)
      unitNew := u.unitNew || (v.kind.setsNew && v.domain == .unit)
      fieldNew := u.fieldNew || (v.kind.setsNew && v.domain == .field) } := by
  obtain ⟨word, unitNew, fieldNew⟩ := u
  obtain ⟨kind, d, bit⟩ := v
  unfold Summary.applyEvent
  dsimp only
  cases kind.setsNew with
  | false => simp
  | true =>
    cases d with
    | unit => cases unitNew <;> simp [Summary.newFlag, Summary.setNewFlag]
    | field => cases fieldNew <;> simp [Summary.newFlag, Summary.setNewFlag]

/-- The causes an event sets are those of the NEW flags that rise with it (R143). -/
theorem applyEvent_cause (u : Summary) (v : Event) :
    (Summary.applyEvent (u, 0) v).2 = newCauses u (Summary.applyEvent (u, 0) v).1 := by
  rw [applyEvent_summary]
  obtain ⟨word, unitNew, fieldNew⟩ := u
  obtain ⟨kind, d, bit⟩ := v
  unfold Summary.applyEvent
  dsimp only
  cases kind.setsNew with
  | false => exact (newCauses_same _ _ (Bool.or_false _) (Bool.or_false _)).symm
  | true =>
    cases d with
    | unit => cases unitNew <;> simp [newCauses, Summary.newFlag, Domain.newCause, Cause.unew]
    | field => cases fieldNew <;> simp [newCauses, Summary.newFlag, Domain.newCause, Cause.fnew]

/-- A request that sends at most one event. -/
def Work.AtMostOne (w : Work) : Prop := w.events = [] ∨ ∃ v, w.events = [v]

theorem summary_of_atMostOne (u : Summary) (w : Work) (h : w.AtMostOne) :
    (w.events.foldl Summary.applyEvent (u, 0)).2
      = newCauses u (w.events.foldl Summary.applyEvent (u, 0)).1 := by
  rcases h with none | ⟨v, one⟩
  · rw [none]
    exact (newCauses_same u u rfl rfl).symm
  · rw [one]
    exact applyEvent_cause u v

/-! ## The answer of RAISE-APP -/

theorem keyView_found (slots : Vector Slot 128) (k : Key) (i : Fin 128) (gen : Byte) (e : Entry)
    (h : findKey slots k = some i) (he : slots[i] = ⟨gen, some e⟩) :
    keyView slots k = e.view i.val gen := by
  unfold keyView
  rw [h]
  dsimp only
  rw [he]

/-- The state after a RAISE-APP whose work is w and whose entry e then stands at index i. -/
def State.raisedApp (s : State) (w : Work) (i : Fin 128) (e : Entry) : State :=
  complete 0x00 (e.view i.val s.engine.slots[i].gen) (handOff (s.atGrant 0x54) w)

/-- The raise leaves the entry e at index i, and every other slot. -/
structure Work.RaisedAt (w w' : Work) (i : Fin 128) (e : Entry) : Prop where
  self : w'.slots[i] = ⟨w.slots[i].gen, some e⟩
  others : ∀ j : Fin 128, j ≠ i → w'.slots[j] = w.slots[j]

theorem workRaiseApp_raised (s : State) (k : Key) (w : Work) (out : Raised) (i : Fin 128)
    (e : Entry)
    (checked : appChecked (s.atGrant 0x54)) (hk : s.arguments.appKey = k)
    (raised : (taking s).raise s.arguments.appRaise = (w, out)) (ok : out.result = Result.ok)
    (place : Work.RaisedAt (taking s) w i e) (key : e.key = k)
    (unique : ∀ (j : Fin 128) (f : Entry), s.engine.slots[j].entry = some f → f.key = k → j = i) :
    workRaiseApp (s.atGrant 0x54) = s.raisedApp w i e := by
  have found : findKey w.slots k = some i := by
    refine findKey_of_unique w.slots k i e (congrArg Slot.entry place.self) key fun j f hf hfk => ?_
    by_contra other
    rw [place.others j other] at hf
    exact other (unique j f hf hfk)
  have shown : keyView w.slots s.arguments.appKey = e.view i.val s.engine.slots[i].gen := by
    rw [hk]
    exact keyView_found _ _ i _ e found place.self
  have raised' : (taking (s.atGrant 0x54)).raise (s.atGrant 0x54).window.appRaise = (w, out) :=
    raised
  rw [workRaiseApp_checked _ checked, raised', ok, if_pos rfl]
  exact congrArg (complete 0x00 · _) shown

/-- The causes after a RAISE-APP (R132, R143, R195). -/
theorem raisedApp_cause (s : State) (w : Work) (i : Fin 128) (e : Entry) (events : w.AtMostOne)
    (space : w.space = false) : (s.raisedApp w i e).window.cause = s.window.cause
      ||| (if (s.raisedApp w i e).summary.unitNew = true ∧ s.summary.unitNew = false then 0x01
        else 0)
      ||| (if (s.raisedApp w i e).summary.fieldNew = true ∧ s.summary.fieldNew = false then 0x02
        else 0)
      ||| (if s.release.trips (fatalHeld w.slots) then 0x04 else 0) ||| 0x20 := by
  have causes := summary_of_atMostOne s.summary w events
  have cause : (s.raisedApp w i e).window.cause = s.window.cause
      ||| (w.events.foldl Summary.applyEvent (s.summary, 0)).2
      ||| (if w.space then Cause.space else 0)
      ||| (if s.release.trips (fatalHeld w.slots) then 0x04 else 0) ||| 0x20 := rfl
  rw [cause, causes, space, if_neg Bool.false_ne_true, cause_zero]
  unfold newCauses
  rw [← BitVec.or_assoc]
  rfl

theorem exec_raiseApp_raised (s : State) (k : Key) (w : Work) (out : Raised) (i : Fin 128)
    (e : Entry) (h : s.takes) (hg : s.grantsWindow)
    (checked : appChecked (s.atGrant 0x54)) (hk : s.arguments.appKey = k)
    (raised : (taking s).raise s.arguments.appRaise = (w, out)) (ok : out.result = Result.ok)
    (place : Work.RaisedAt (taking s) w i e) (key : e.key = k)
    (unique : ∀ (j : Fin 128) (f : Entry), s.engine.slots[j].entry = some f → f.key = k → j = i) :
    exec (.raiseApp .free) s = .next (s.raisedApp w i e) := by
  rw [exec_raiseApp s h hg, workRaiseApp_raised s k w out i e checked hk raised ok place key unique]

theorem appChecked_of (s : State) (path : (s.arguments.argPath 0).wellFormed = true)
    (low : 8 ≤ (s.arguments.argAt 4).toNat) (high : (s.arguments.argAt 4).toNat ≤ 31)
    (length : (s.arguments.argAt 6).toNat ≤ 20)
    (enabled : (groupOf s.groups (s.arguments.argAt 4)).enabled = true) :
    appChecked (s.atGrant 0x54) := by
  have long : decide (((s.atGrant 0x54).window.argAt 6).toNat ≤ 20) = true := decide_eq_true length
  unfold appChecked
  rw [long, appCheck_group (s.atGrant 0x54) path low high]
  exact if_pos enabled

/-! ## A creation -/

theorem lowestFree_of (slots : Vector Slot 128) (i : Fin 128) (hi : i.val < Config.generalSize)
    (free : slots[i].entry = none) (below : ∀ j : Fin 128, j < i → slots[j].entry ≠ none) :
    lowestFree slots = some i := by
  unfold lowestFree indices
  rw [List.find?_eq_some_iff_getElem]
  refine ⟨?_, i.val, by simp, by simp, fun j hj => ?_⟩
  · rw [Bool.and_eq_true]
    exact ⟨decide_eq_true hi, Option.isNone_iff_eq_none.mpr free⟩
  · have occupied : slots[(⟨j, by omega⟩ : Fin 128)].entry.isNone = false :=
      Option.isNone_eq_false_iff.mpr (Option.isSome_iff_ne_none.mpr (below ⟨j, by omega⟩ hj))
    rw [List.getElem_finRange]
    show (!(_ && slots[(⟨j, _⟩ : Fin 128)].entry.isNone)) = true
    rw [occupied, Bool.and_false]
    rfl

/-- A raise of a new key, with a sequence and usable room, creates its entry at the lowest FREE
general index (R17, R89). -/
theorem Work.raise_creates (w : Work) (r : Raise) (i : Fin 128) (low : 8 ≤ r.key.group.toNat)
    (fresh : findKey w.slots r.key = none) (counter : w.seqNext ≤ Config.lastSequence)
    (room : 0 < usableFree w.slots w.reserve (w.group r.key.group).domain)
    (free : lowestFree w.slots = some i) : w.raise r = (w.create r i, .created) := by
  have other : ∀ d, r.key ≠ tableFullKey d := by
    intro d hd
    have six : (tableFullKey d).group = 6 := rfl
    rw [hd, six] at low
    exact absurd low (by decide)
  unfold Work.raise
  rw [fresh]
  dsimp only
  rw [if_neg (by omega)]
  unfold Work.createInRoom
  dsimp only
  rw [if_neg (other .unit), if_neg (other .field), if_pos room, free]

theorem Work.create_raisedAt (w : Work) (r : Raise) (i : Fin 128) :
    Work.RaisedAt w (w.create r i) i (w.newEntry r) := by
  refine ⟨?_, fun j hj => ?_⟩
  · rw [Work.slots_create, if_pos rfl]
  · rw [Work.slots_create, if_neg (Ne.symm hj)]

theorem Work.create_event (w : Work) (r : Raise) (i : Fin 128) (h : w.events = []) :
    (w.create r i).events
      = [⟨.creation, (w.group r.key.group).domain, (w.group r.key.group).summaryBit⟩] := by
  show w.events ++ _ = _
  rw [h]
  rfl

theorem Work.create_locs (w : Work) (r : Raise) (i : Fin 128) : (w.create r i).locs
    = if (w.group r.key.group).momentary then w.locs
      else countUp w.locs (anchorOf w.locs r.key.path) := by
  show (if (EntryState.active (if (w.group r.key.group).momentary then .clearedUnack
    else .activeUnack)) then _ else _) = _
  cases (w.group r.key.group).momentary with
  | true => rfl
  | false => rfl

theorem raisedApp_summary (s : State) (w : Work) (i : Fin 128) (e : Entry) (v : Event)
    (event : w.events = [v]) :
    (s.raisedApp w i e).summary = (Summary.applyEvent (s.summary, 0) v).1 := by
  show (w.events.foldl Summary.applyEvent (s.summary, 0)).1 = _
  rw [event]
  rfl

/-- A NEW flag rises where it was low and the event is of its domain (R143). -/
theorem flag_risen (a : Bool) (d d' : Domain) :
    ((a || d == d') = true ∧ a = false) ↔ (d = d' ∧ a = false) := by
  cases a with
  | true => simp
  | false => simp

/-- Settles O31. -/
theorem raiseAppCreates : Obligations.RaiseAppCreates := by
  unfold Obligations.RaiseAppCreates
  intro s k g i h hg hk path low high length hgroup enabled fresh counter room general free below
  subst hk hgroup
  have checked := appChecked_of s path low high length enabled
  have raised := (taking s).raise_creates s.arguments.appRaise i low
    ((findKey_none _ _).mpr fresh) counter room (lowestFree_of _ i general free below)
  have place := (taking s).create_raisedAt s.arguments.appRaise i
  have event := (taking s).create_event s.arguments.appRaise i rfl
  have locs := (taking s).create_locs s.arguments.appRaise i
  have exec_eq := exec_raiseApp_raised s _ _ _ i _ h hg checked rfl raised rfl place rfl
    fun j f hf hfk => absurd hfk (fresh j f hf)
  have cause := raisedApp_cause s ((taking s).create s.arguments.appRaise i) i
    ((taking s).newEntry s.arguments.appRaise) (.inr ⟨_, event⟩) rfl
  have summary : (s.raisedApp ((taking s).create s.arguments.appRaise i) i
      ((taking s).newEntry s.arguments.appRaise)).summary
      = { word := s.summary.word ||| ((1 : BitVec 16)
            <<< (groupOf s.groups (s.arguments.argAt 4)).summaryBit.toNat)
          unitNew := s.summary.unitNew || (groupOf s.groups (s.arguments.argAt 4)).domain == .unit
          fieldNew := s.summary.fieldNew
            || (groupOf s.groups (s.arguments.argAt 4)).domain == .field } :=
    (raisedApp_summary s _ i _ _ event).trans (applyEvent_summary _ _ _)
  refine ⟨_, _, exec_eq, place.self, place.others, rfl, rfl, rfl, rfl, rfl, rfl, rfl, rfl, rfl, rfl,
    rfl, rfl, rfl, rfl, rfl, rfl, rfl, rfl, locs, summary, ?_, rfl,
    answeredWith_handOff s _ 0x54 0x00 _⟩
  rw [cause, summary]
  simp only [flag_risen]
  rfl

end Sys2Proof.Machine

/-!
RAISE-APP of a key that stands: the repeat, the momentary raise and the reactivation (R20 to R22,
R40, R41, R181).
-/

namespace Sys2Proof.Machine

/-! ## The entry after a raise -/

section
variable (w : Work) (r : Raise) (i : Fin 128) (e : Entry)

/-- The burst start and count after the raise (R40). -/
def Work.burstOf : Stamp × Nat := burstUpdate (w.group e.key.group) w.now e

/-- The raise escalates the entry (R41). -/
def Work.escalatesBy : Bool := escalates (w.group e.key.group) e (w.burstOf e).2

/-- The detail after a raise that may replace it (R20). -/
def Raise.detailOver : List Byte := if r.detail.isEmpty then e.detail else r.detail

theorem Entry.withDetail_eq : e.withDetail r = { e with detail := r.detailOver e } := by
  unfold Entry.withDetail Raise.detailOver
  split
  · rfl
  · rfl

/-- The entry after a raise that gives it a state, an action, a flag and a detail (R20 to R22). -/
def Work.raisedEntry (state : EntryState) (executed : Action) (escalated : Bool)
    (detail : List Byte) :
    Entry :=
  { e.touch r w.now (w.burstOf e) with
    state := state, executed := executed, escalated := escalated, detail := detail }

/-- The entry after a repeat (R20, R41). -/
def Work.repeatedEntry : Entry :=
  w.raisedEntry r e e.state
    (if w.escalatesBy e then executedAction (w.group e.key.group) w.mode e.logged true
      else e.executed)
    (e.escalated || w.escalatesBy e) (r.detailOver e)

/-- The entry after a reactivation (R21, R37). -/
def Work.reactivatedEntry : Entry :=
  w.raisedEntry r e .activeUnack
    (executedAction (w.group e.key.group) w.mode e.logged (e.escalated || w.escalatesBy e))
    (e.escalated || w.escalatesBy e) (r.detailOver e)

/-- The entry after a momentary raise (R22). -/
def Work.momentaryEntry : Entry := w.raisedEntry r e e.state e.executed e.escalated e.detail

theorem Work.repeatRaise_quiet (h : w.escalatesBy e = false) :
    w.repeatRaise r i e = w.put i (w.repeatedEntry r e) := by
  have quiet : ¬ escalates (w.group e.key.group) e (burstUpdate (w.group e.key.group) w.now e).2
      = true := Bool.eq_false_iff.mp h
  unfold Work.repeatRaise Work.repeatedEntry Work.raisedEntry
  dsimp only
  rw [if_neg quiet, Entry.withDetail_eq, h, Bool.or_false]
  rfl

theorem Work.repeatRaise_escalates (h : w.escalatesBy e = true) : w.repeatRaise r i e
    = (w.put i (w.repeatedEntry r e)).event .escalation e.domain (w.group e.key.group) := by
  have loud : escalates (w.group e.key.group) e (burstUpdate (w.group e.key.group) w.now e).2
      = true := h
  unfold Work.repeatRaise Work.repeatedEntry Work.raisedEntry
  dsimp only
  rw [if_pos loud, Entry.withDetail_eq, h, Bool.or_true]
  rfl

theorem Work.repeatRaise_locs : (w.repeatRaise r i e).locs = w.locs := by
  cases h : w.escalatesBy e with
  | false => rw [w.repeatRaise_quiet r i e h]; rfl
  | true => rw [w.repeatRaise_escalates r i e h]; rfl

theorem Work.repeatRaise_events (none : w.events = []) : (w.repeatRaise r i e).events
    = if w.escalatesBy e then [⟨.escalation, e.domain, (w.group e.key.group).summaryBit⟩]
      else [] := by
  cases h : w.escalatesBy e with
  | false =>
    rw [w.repeatRaise_quiet r i e h]
    exact none
  | true =>
    rw [w.repeatRaise_escalates r i e h]
    show w.events ++ _ = _
    rw [none]
    rfl

theorem Work.reactivateRaise_eq : w.reactivateRaise r i e
    = { (w.put i (w.reactivatedEntry r e)).event
          (if w.escalatesBy e then .reactivationEscalation else .reactivation) e.domain
          (w.group e.key.group) with locs := countUp w.locs e.anchor } := by
  unfold Work.reactivateRaise
  dsimp only
  rw [Entry.withDetail_eq]
  rfl

theorem Work.reactivateRaise_events (none : w.events = []) : ∃ kind : EventKind,
    kind.setsNew = true
      ∧ (w.reactivateRaise r i e).events
        = [⟨kind, e.domain, (w.group e.key.group).summaryBit⟩] := by
  refine ⟨if w.escalatesBy e then .reactivationEscalation else .reactivation, ?_, ?_⟩
  · split
    · rfl
    · rfl
  · rw [w.reactivateRaise_eq]
    show w.events ++ _ = _
    rw [none]
    rfl

end

/-! ## The raise of a standing entry -/

/-- A raise that leaves the entry e' in the place of one that stood: no sequence is taken, and at
most one event is sent. -/
structure Work.Restands (w w' : Work) (i : Fin 128) (e' : Entry) : Prop where
  place : Work.RaisedAt w w' i e'
  seqNext : w'.seqNext = w.seqNext
  seqSpent : w'.seqSpent = w.seqSpent
  space : w'.space = w.space
  events : w.events = [] → w'.AtMostOne

theorem Work.put_restands (w : Work) (i : Fin 128) (e : Entry) (locs : List Location) :
    Work.Restands w { w.put i e with locs := locs } i e := by
  refine ⟨⟨?_, fun j hj => ?_⟩, rfl, rfl, rfl, fun h => .inl h⟩
  · exact (w.slots_put i i e).trans (if_pos rfl)
  · exact (w.slots_put i j e).trans (if_neg (Ne.symm hj))

theorem Work.event_restands (w : Work) (i : Fin 128) (e : Entry) (kind : EventKind) (d : Domain)
    (g : GroupRecord) (locs : List Location) :
    Work.Restands w { (w.put i e).event kind d g with locs := locs } i e := by
  have place := (w.put_restands i e locs).place
  refine ⟨⟨place.self, place.others⟩, rfl, rfl, rfl, fun h => .inr ⟨⟨kind, d, g.summaryBit⟩, ?_⟩⟩
  show w.events ++ _ = _
  rw [h]
  rfl

/-- The entry after the raise of a standing one (R17, step 5). -/
def Work.raisedStanding (w : Work) (r : Raise) (e : Entry) : Entry :=
  if e.state.active then w.repeatedEntry r e
  else if (w.group e.key.group).momentary then w.momentaryEntry r e
  else w.reactivatedEntry r e

section
variable (w : Work) (r : Raise) (i : Fin 128) (e : Entry)

theorem Work.raiseStanding_active (h : e.state ≠ .clearedUnack) :
    w.raiseStanding r i e = (w.repeatRaise r i e, .repeated)
      ∧ w.raisedStanding r e = w.repeatedEntry r e := by
  have active : e.state.active = true := by
    cases hs : e.state with
    | activeUnack => rfl
    | activeAck => rfl
    | clearedUnack => exact absurd hs h
  exact ⟨if_pos active, if_pos active⟩

theorem Work.raiseStanding_momentary (h : e.state = .clearedUnack)
    (hm : (w.group e.key.group).momentary = true) :
    w.raiseStanding r i e = (w.momentaryRaise r i e, .momentary)
      ∧ w.raisedStanding r e = w.momentaryEntry r e := by
  have cleared : ¬ e.state.active = true := by rw [h]; exact Bool.false_ne_true
  exact ⟨(if_neg cleared).trans (if_pos hm), (if_neg cleared).trans (if_pos hm)⟩

theorem Work.raiseStanding_reactivates (h : e.state = .clearedUnack)
    (hm : (w.group e.key.group).momentary = false) :
    w.raiseStanding r i e = (w.reactivateRaise r i e, .reactivated)
      ∧ w.raisedStanding r e = w.reactivatedEntry r e := by
  have cleared : ¬ e.state.active = true := by rw [h]; exact Bool.false_ne_true
  have lasting := Bool.eq_false_iff.mp hm
  exact ⟨(if_neg cleared).trans (if_neg lasting), (if_neg cleared).trans (if_neg lasting)⟩

theorem Work.raiseStanding_restands :
    Work.Restands w (w.raiseStanding r i e).1 i (w.raisedStanding r e) := by
  by_cases hs : e.state = .clearedUnack
  · cases hm : (w.group e.key.group).momentary with
    | true =>
      obtain ⟨work, entry⟩ := w.raiseStanding_momentary r i e hs hm
      rw [work, entry]
      exact w.put_restands i _ w.locs
    | false =>
      obtain ⟨work, entry⟩ := w.raiseStanding_reactivates r i e hs hm
      rw [work, entry]
      dsimp only
      rw [Work.reactivateRaise_eq]
      exact w.event_restands i _ _ _ _ _
  · obtain ⟨work, entry⟩ := w.raiseStanding_active r i e hs
    rw [work, entry]
    dsimp only
    cases he : w.escalatesBy e with
    | false =>
      rw [w.repeatRaise_quiet r i e he]
      exact w.put_restands i _ w.locs
    | true =>
      rw [w.repeatRaise_escalates r i e he]
      exact w.event_restands i _ _ _ _ w.locs

theorem Work.raiseStanding_ok : (w.raiseStanding r i e).2.result = Result.ok := by
  unfold Work.raiseStanding
  split
  · rfl
  · split
    · rfl
    · rfl

/-- Whatever the state, a raise of a standing entry keeps what makes it the same entry (R20). -/
theorem Work.raisedStanding_shape : ∃ state executed escalated detail,
    w.raisedStanding r e = w.raisedEntry r e state executed escalated detail := by
  unfold Work.raisedStanding
  split
  · exact ⟨_, _, _, _, rfl⟩
  · split
    · exact ⟨_, _, _, _, rfl⟩
    · exact ⟨_, _, _, _, rfl⟩

theorem Work.raise_standing (k : Key) (hk : r.key = k) (found : findKey w.slots k = some i)
    (he : w.entry i = some e) : w.raise r = w.raiseStanding r i e := by
  subst hk
  unfold Work.raise
  rw [found]
  dsimp only
  rw [he]

end

/-! ## The command's own values -/

theorem burstUpdate_eq (g : GroupRecord) (now : Stamp) (e : Entry) : burstUpdate g now e
    = (if (now - e.burstStart).toNat ≤ g.burstWindow.toNat then e.burstStart else now,
      if (now - e.burstStart).toNat ≤ g.burstWindow.toNat then min 255 (e.burstCount + 1)
      else 1) := by
  unfold burstUpdate elapsed
  split
  · rfl
  · rfl

theorem escalates_iff (g : GroupRecord) (e : Entry) (count : Nat) : escalates g e count = true
    ↔ g.burstThreshold ≠ 0 ∧ e.logged ≠ .notice ∧ e.escalated = false
      ∧ g.burstThreshold.toNat ≤ count := by
  unfold escalates
  simp only [Bool.and_eq_true, bne_iff_ne, Bool.not_eq_true', decide_eq_true_iff, and_assoc]

theorem appDetail_over (w : Window) (e : Entry) : w.appRaise.detailOver e
    = if w.argAt 6 = 0 then e.detail
      else (List.range (w.argAt 6).toNat).map fun n => w.argAt (7 + n) := by
  have empty : w.appRaise.detail.isEmpty = true ↔ w.argAt 6 = 0 := by
    show ((List.range (w.argAt 6).toNat).map fun n => w.argAt (7 + n)).isEmpty = true ↔ _
    rw [List.isEmpty_iff, List.map_eq_nil_iff, List.range_eq_nil]
    exact ⟨fun h => BitVec.eq_of_toNat_eq h, fun h => h ▸ rfl⟩
  unfold Raise.detailOver
  simp only [empty]
  rfl

theorem raisedApp_silent (s : State) (w : Work) (i : Fin 128) (e : Entry) (none : w.events = []) :
    (s.raisedApp w i e).summary = s.summary := by
  show (w.events.foldl Summary.applyEvent (s.summary, 0)).1 = _
  rw [none]
  rfl

/-- Settles O32. -/
theorem raiseAppOnStandingKey : Obligations.RaiseAppOnStandingKey := by
  unfold Obligations.RaiseAppOnStandingKey
  intro s k g i e start count esc detail h hg hk path low high length hgroup enabled he ek unique
    hstart hcount hesc hdetail
  subst hk hgroup
  have checked := appChecked_of s path low high length enabled
  have found := findKey_of_unique _ _ i e he ek unique
  have raised := (taking s).raise_standing s.arguments.appRaise i e _ rfl found he
  have restands := (taking s).raiseStanding_restands s.arguments.appRaise i e
  have group : (taking s).group e.key.group = groupOf s.groups (s.arguments.argAt 4) := by
    rw [ek]
    rfl
  have burst : (taking s).burstOf e = (start, count) := by
    unfold Work.burstOf
    rw [group, burstUpdate_eq, hstart, hcount]
    rfl
  have escalation : (taking s).escalatesBy e = esc := by
    rw [Bool.eq_iff_iff, hesc]
    unfold Work.escalatesBy
    rw [burst, group]
    exact escalates_iff _ e count
  have replaced : s.arguments.appRaise.detailOver e = detail :=
    (appDetail_over _ e).trans hdetail.symm
  obtain ⟨state, executed, escalated, detail', shape⟩ :=
    (taking s).raisedStanding_shape s.arguments.appRaise e
  have key : ((taking s).raisedStanding s.arguments.appRaise e).key = e.key := by rw [shape]; rfl
  have exec_eq := exec_raiseApp_raised s _ ((taking s).raiseStanding s.arguments.appRaise i e).1
    ((taking s).raiseStanding s.arguments.appRaise i e).2 i _ h hg checked rfl raised
    ((taking s).raiseStanding_ok _ i e) restands.place (key.trans ek) unique
  refine ⟨_, _, exec_eq, restands.place.self, restands.place.others, restands.seqNext,
    restands.seqSpent, ?_, fun active => ?_, fun cleared momentary => ?_, fun cleared lasting => ?_,
    raisedApp_cause s _ i _ (restands.events rfl) restands.space,
      answeredWith_handOff s _ 0x54 0x00 _⟩
  · rw [shape]
    unfold Work.raisedEntry Entry.touch
    rw [burst]
    rfl
  · obtain ⟨work, entry⟩ := (taking s).raiseStanding_active s.arguments.appRaise i e active
    have locs := (taking s).repeatRaise_locs s.arguments.appRaise i e
    have events := (taking s).repeatRaise_events s.arguments.appRaise i e rfl
    rw [escalation, group] at events
    rw [entry, work]
    unfold Work.repeatedEntry
    rw [escalation, replaced, group]
    refine ⟨rfl, rfl, locs, rfl, rfl, ?_⟩
    cases esc with
    | false => exact raisedApp_silent s _ i _ events
    | true =>
      refine ((raisedApp_summary s _ i _ _ events).trans (applyEvent_summary _ _ _)).trans ?_
      simp [EventKind.setsNew]
  · obtain ⟨work, entry⟩ :=
      (taking s).raiseStanding_momentary s.arguments.appRaise i e cleared (group ▸ momentary)
    rw [entry, work]
    exact ⟨cleared, rfl, rfl, rfl, rfl, raisedApp_silent s _ i _ rfl⟩
  · obtain ⟨work, entry⟩ :=
      (taking s).raiseStanding_reactivates s.arguments.appRaise i e cleared (group ▸ lasting)
    obtain ⟨kind, sets, events⟩ := (taking s).reactivateRaise_events s.arguments.appRaise i e rfl
    rw [group] at events
    rw [entry, work]
    unfold Work.reactivatedEntry
    rw [escalation, replaced, group]
    refine ⟨rfl, rfl, rfl, rfl, rfl,
      (raisedApp_summary s _ i _ _ events).trans ((applyEvent_summary _ _ _).trans ?_)⟩
    rw [sets, Bool.true_and, Bool.true_and]

end Sys2Proof.Machine

/-!
Report entries of the link: the checks of R17 and R69, the verdicts, and what the answer leaves
(R18, R118, R122).
-/

namespace Sys2Proof.Machine

/-! ## The checks -/

theorem homePath_of (s : State) (a : Byte) (x : Agent) (home : Location)
    (hx : findAgent s.link.roster a = some x) (hl : s.topo.locs[x.home]? = some home) :
    homePath s a = home.path := by
  unfold homePath
  rw [hx]
  dsimp only
  rw [hl]

/-- What a station's or a bay's path covers (R122). -/
theorem covers_of_home (q p : LocPath) (station : q.station ≠ 0xFF) (node : q.node = 0xFF)
    (channel : q.channel = 0xFF) :
    q.covers p = true ↔ p.station = q.station ∧ (q.bay = 0 ∨ p.bay = q.bay) := by
  rw [eq_comm (a := p.station), eq_comm (a := p.bay)]
  unfold LocPath.covers
  rw [node, channel]
  simp only [Bool.and_eq_true, Bool.or_eq_true, beq_iff_eq, station, false_or, true_or, and_true]

theorem agentGroup_iff (s : State) (g : Byte) : agentGroup s g = true
    ↔ 9 ≤ g.toNat ∧ g.toNat ≤ 31 ∧ (groupOf s.groups g).enabled = true := by
  unfold agentGroup
  simp only [Bool.and_eq_true, decide_eq_true_iff, and_assoc]

theorem reachableForRaise_iff (locs : List Location) (p : LocPath) : reachableForRaise locs p = true
    ↔ presenceAt locs (anchorOf locs p) ≠ .absent ∧ cut locs (anchorOf locs p) = false := by
  unfold reachableForRaise
  simp only [Bool.and_eq_true, bne_iff_ne, Bool.not_eq_true']

theorem pathCut_configured (locs : List Location) (p : LocPath) (i : Nat)
    (h : configured locs p = some i) : pathCut locs p = cut locs i := by
  unfold pathCut
  rw [h]

/-- A path that is not configured can be arrived at exactly where it is reachable for raising
(R70). -/
theorem pathCut_not_configured (locs : List Location) (p : LocPath) (h : configured locs p = none) :
    pathCut locs p = !reachableForRaise locs p := by
  unfold pathCut reachableForRaise
  rw [h]
  simp [bne]

/-- The three checks that a restore passes, in their order (R17). -/
theorem restoreRefusal_eq (s : State) (r : Report) (scope group : Bool) (hs : inScope s r = scope)
    (hg : agentGroup s r.group = group) :
    restoreRefusal s r = if r.path.wellFormed = false then some .refusedMalformed
      else if scope = false then some .refusedScope
      else if group = false then some .refusedGroup else none := by
  unfold restoreRefusal
  rw [hs, hg]
  simp only [Bool.not_eq_true']

theorem raiseRefusal_eq (s : State) (r : Report) (scope group reach : Bool)
    (hs : inScope s r = scope) (hg : agentGroup s r.group = group)
    (hr : reachableForRaise s.topo.locs r.path = reach) :
    raiseRefusal s r = if r.path.wellFormed = false then some .refusedMalformed
      else if scope = false then some .refusedScope
      else if group = false then some .refusedGroup
      else if reach = false then some .refusedUnreachable else none := by
  unfold raiseRefusal
  rw [restoreRefusal_eq s r scope group hs hg, hr]
  by_cases form : r.path.wellFormed = false
  · simp only [if_pos form]
  · cases scope with
    | false => simp only [if_neg form, if_true]
    | true =>
      cases group with
      | false => simp only [if_neg form, Bool.true_eq_false, if_false, if_true]
      | true => cases reach <;> simp [form]

theorem presenceFormOk_false (r : Report) (codeOk : Bool) : presenceFormOk r codeOk = false
    ↔ r.path.wellFormed = false ∨ r.path.channel ≠ 0xFF ∨ r.group ≠ 0 ∨ codeOk = false := by
  unfold presenceFormOk LocPath.hasChannel
  simp only [Bool.and_eq_false_iff, Bool.not_eq_false', bne_iff_ne, beq_eq_false_iff_ne, or_assoc]

theorem arriveRefusal_eq (s : State) (r : Report) (scope arrives : Bool) (hs : inScope s r = scope)
    (ha : pathCut s.topo.locs r.path = !arrives) :
    arriveRefusal s r = if r.path.wellFormed = false ∨ r.path.channel ≠ 0xFF ∨ r.group ≠ 0
        then some .refusedMalformed
      else if scope = false then some .refusedScope
      else if arrives = false then some .refusedUnreachable else none := by
  unfold arriveRefusal
  rw [hs, ha]
  simp only [Bool.not_eq_true', presenceFormOk_false, Bool.true_eq_false, or_false]

theorem departRefusal_eq (s : State) (r : Report) (scope : Bool) (hs : inScope s r = scope) :
    departRefusal s r = if r.path.wellFormed = false ∨ r.path.channel ≠ 0xFF ∨ r.group ≠ 0
        ∨ r.code ≠ 0 then some .refusedMalformed
      else if scope = false then some .refusedScope else none := by
  unfold departRefusal
  rw [hs]
  simp only [Bool.not_eq_true', presenceFormOk_false, beq_eq_false_iff_ne]

/-! ## The answer -/

theorem roster_answered (roster : List Agent) (a seq : Byte) (v : Verdict) :
    updateAgent (updateAgent roster a fun x => { x with waiting := false }) a
        (fun x => { x with stored := (seq, v) })
      = roster.map fun x =>
          if x.address = a then { x with waiting := false, stored := (seq, v) } else x := by
  unfold updateAgent
  rw [List.map_map]
  refine List.map_congr_left fun x _ => ?_
  by_cases h : x.address = a
  · simp [h]
  · simp [h]

/-- The link after the answer to a report entry (R118). -/
theorem answerReport_eq (r : Report) (v : Verdict) (s : State) : answerReport r v s = { s with
    link := { s.link with
      queue := s.link.queue.tail
      roster := s.link.roster.map fun x =>
        if x.address = r.agent then { x with waiting := false, stored := (r.seq, v) }
        else x } } := by
  rw [← roster_answered]
  rfl

theorem answerReport_granted (s : State) (r : Report) (v : Verdict) :
    answerReport r v (granted .link s) = refusedReport s r v := answerReport_eq r v _

/-- A report entry worked, its work handed off (R16, R118). -/
theorem workedReport_handOff (s : State) (r : Report) (w : Work) (v : Verdict) :
    workedReport s (answerReport r v (handOff (granted .link s) w)) r w v := by
  rw [answerReport_eq]
  refine ⟨⟨⟨rfl, rfl, rfl, rfl, ?_, rfl, rfl, rfl, rfl, rfl, rfl, rfl, rfl⟩,
    ⟨rfl, rfl, rfl, rfl, rfl⟩, rfl, ?_⟩, rfl, rfl⟩
  · show (s.window.cause ||| _ ||| _ ||| _) &&& s.window.cause = s.window.cause
    simp only [BitVec.or_assoc]
    exact cause_kept _ _
  · have causes : s.window.cause ||| workCauses s w = s.window.cause
        ||| (w.events.foldl Summary.applyEvent (s.summary, 0)).2
        ||| (if w.space then 0x08 else 0)
        ||| (if s.release.trips (fatalHeld w.slots) then 0x04 else 0) := by
      unfold workCauses
      rw [← BitVec.or_assoc, ← BitVec.or_assoc]
    rw [causes]
    rfl

/-- A granted report entry at the head of the queue, worked by the step of its kind (R14, R122). -/
theorem reportStep_granted (kind : Byte) (work : Report → State → State) (s : State) (r : Report)
    (rest : List LinkEntry) (live : s.live = true) (grant : s.nextGrant = some .link)
    (queue : s.link.queue = .report r :: rest) (hk : r.kind = kind) :
    reportStep kind work s = work r (granted .link s) := by
  have linked : s.linkGranted = true := by
    unfold State.linkGranted
    rw [live, grant]
    rfl
  unfold reportStep
  rw [queue]
  exact if_pos ⟨hk, linked⟩

theorem answerWith_refused (s : State) (r : Report) (refusal : Option Verdict)
    (work : Work → Work × Verdict) (v : Verdict) (h : refusal = some v) :
    answerWith (granted .link s) r refusal work = refusedReport s r v := by
  rw [h]
  exact answerReport_granted s r v

theorem answerWith_worked (s : State) (r : Report) (refusal : Option Verdict)
    (work : Work → Work × Verdict) (h : refusal = none) :
    workedReport s (answerWith (granted .link s) r refusal work) r (work (taking s)).1
      (work (taking s)).2 := by
  rw [h]
  exact workedReport_handOff s r _ _

theorem reportArrive_unconfigured (w : Work) (r : Report) (h : configured w.locs r.path = none) :
    w.reportArrive r = ((w.raise ⟨⟨r.path, 5, 0⟩, [r.code], .part⟩).1,
      (w.raise ⟨⟨r.path, 5, 0⟩, [r.code], .part⟩).2.verdict) := by
  unfold Work.reportArrive
  rw [h]
  rfl

theorem reportDepart_unconfigured (w : Work) (r : Report) (h : configured w.locs r.path = none) :
    w.reportDepart r = ((w.restore ⟨r.path, 5, 0⟩).1, (w.restore ⟨r.path, 5, 0⟩).2.verdict) := by
  unfold Work.reportDepart
  rw [h]

/-- Settles O48. -/
theorem reportsAreAnswered : Obligations.ReportsAreAnswered := by
  unfold Obligations.ReportsAreAnswered
  refine ⟨?_, ?_, ?_, ?_⟩
  · intro s r x home scope group reach arrives hx hl station node channel hscope hgroup hreach
      hconfigured hother
    have inScope_eq : inScope s r = scope := by
      rw [Bool.eq_iff_iff, hscope, ← covers_of_home home.path r.path station node channel,
        ← homePath_of s r.agent x home hx hl]
      rfl
    have group_eq : agentGroup s r.group = group := by
      rw [Bool.eq_iff_iff, hgroup, agentGroup_iff]
    have reach_eq : reachableForRaise s.topo.locs r.path = reach := by
      rw [Bool.eq_iff_iff, hreach, reachableForRaise_iff]
    have arrives_eq : pathCut s.topo.locs r.path = !arrives := by
      cases found : configured s.topo.locs r.path with
      | none => rw [pathCut_not_configured _ _ found, reach_eq, hother found]
      | some i =>
        have same := hconfigured i found
        rw [pathCut_configured _ _ i found]
        cases arrives with
        | true => exact same.mp rfl
        | false => exact Bool.eq_true_of_not_eq_false fun h => Bool.false_ne_true (same.mpr h)
    exact ⟨restoreRefusal_eq s r scope group inScope_eq group_eq,
      raiseRefusal_eq s r scope group reach inScope_eq group_eq reach_eq,
      arriveRefusal_eq s r scope arrives inScope_eq arrives_eq,
        departRefusal_eq s r scope inScope_eq⟩
  · intro out
    cases out <;> rfl
  · intro out
    cases out <;> rfl
  · intro s r rest v live grant queue
    have step := fun kind work hk => reportStep_granted kind work s r rest live grant queue hk
    refine ⟨⟨?_, ?_, ?_, ?_⟩, ?_, ?_, ?_, ?_⟩
    · rintro ⟨kind, refused⟩
      exact congrArg Host.Outcome.next
        ((step 1 workReportRaise kind).trans (answerWith_refused s r _ _ v refused))
    · rintro ⟨kind, refused⟩
      exact congrArg Host.Outcome.next
        ((step 2 workReportRestore kind).trans (answerWith_refused s r _ _ v refused))
    · rintro ⟨kind, refused⟩
      exact congrArg Host.Outcome.next
        ((step 3 workReportArrive kind).trans (answerWith_refused s r _ _ v refused))
    · rintro ⟨kind, refused⟩
      exact congrArg Host.Outcome.next
        ((step 4 workReportDepart kind).trans (answerWith_refused s r _ _ v refused))
    · intro kind passes
      exact ⟨_, congrArg Host.Outcome.next (step 1 workReportRaise kind),
        answerWith_worked s r _ _ passes⟩
    · intro kind passes
      exact ⟨_, congrArg Host.Outcome.next (step 2 workReportRestore kind),
        answerWith_worked s r _ _ passes⟩
    · intro kind passes fresh
      have worked := answerWith_worked s r _ (·.reportArrive r) passes
      rw [reportArrive_unconfigured _ r fresh] at worked
      exact ⟨_, congrArg Host.Outcome.next (step 3 workReportArrive kind), worked⟩
    · intro kind passes fresh
      have worked := answerWith_worked s r _ (·.reportDepart r) passes
      rw [reportDepart_unconfigured _ r fresh] at worked
      exact ⟨_, congrArg Host.Outcome.next (step 4 workReportDepart kind), worked⟩

end Sys2Proof.Machine

/-!
ACK-ALL: its visits of the general entries, then of the two TABLE FULL entries, and its counts
(R24, R95, R173).
-/

namespace Sys2Proof.Machine

/-! ## One visit -/

/-- ACK-ALL retires the entry: it is named, cleared and not latching (R24). -/
def leavesBy (named : Domain → Bool) (e : Entry) : Bool :=
  named e.domain && e.state == .clearedUnack && !e.latching

/-- ACK-ALL makes the entry ACTIVE-ACK (R24). -/
def ackedBy (named : Domain → Bool) (e : Entry) : Bool :=
  named e.domain && e.state == .activeUnack

/-- ACK-ALL leaves the entry as latched (R173). -/
def heldBy (named : Domain → Bool) (e : Entry) : Bool :=
  named e.domain && e.state == .clearedUnack && e.latching

/-- The table after ACK-ALL has come to index i (R173). -/
def Work.ackVisit (named : Domain → Bool) (w : Work) (i : Fin 128) : Work :=
  match w.entry i with
  | some e => if named e.domain then w.ackEntry i e else w
  | none => w

/-- What ACK-ALL leaves of a slot (R24). -/
def Slot.acknowledged (named : Domain → Bool) (sl : Slot) : Slot :=
  match sl.entry with
  | some e =>
    if leavesBy named e then ⟨sl.gen + 1, none⟩
    else if ackedBy named e then ⟨sl.gen, some { e with state := .activeAck }⟩ else sl
  | none => sl

theorem AckAll.visit_eq (mask : Byte) (a : AckAll) (i : Fin 128) : a.visit mask i =
    { work := a.work.ackVisit (maskNames mask) i
      acked := a.acked + (a.work.slots[i].holds (ackedBy (maskNames mask))).toNat
      left := a.left + (a.work.slots[i].holds (heldBy (maskNames mask))).toNat } := by
  unfold AckAll.visit Work.ackVisit
  cases he : a.work.entry i with
  | none =>
    rw [holds_none _ he, holds_none _ he]
    rfl
  | some e =>
    rw [holds_some _ he, holds_some _ he]
    dsimp only
    unfold ackedBy heldBy
    cases hn : maskNames mask e.domain with
    | false => rfl
    | true =>
      cases e.state with
      | activeUnack => rfl
      | activeAck => rfl
      | clearedUnack => cases e.latching <;> rfl

/-- A visit retires the entry, makes it ACTIVE-ACK, or leaves the table (R24). -/
theorem Work.ackVisit_cases (named : Domain → Bool) (w : Work) (i : Fin 128) :
    (w.slots[i].holds (leavesBy named) = true ∧ w.ackVisit named i = w.retire i)
      ∨ (∃ e, w.entry i = some e ∧ leavesBy named e = false ∧ ackedBy named e = true
        ∧ w.ackVisit named i = w.put i { e with state := .activeAck })
      ∨ (w.slots[i].holds (leavesBy named) = false ∧ w.slots[i].acknowledged named = w.slots[i]
        ∧ w.ackVisit named i = w) := by
  unfold Work.ackVisit Slot.acknowledged
  cases he : w.entry i with
  | none =>
    have none : w.slots[i].entry = none := he
    rw [none]
    exact .inr (.inr ⟨holds_none _ none, rfl, rfl⟩)
  | some e =>
    have some : w.slots[i].entry = some e := he
    rw [holds_some _ some, some]
    dsimp only
    cases hn : named e.domain with
    | false => exact .inr (.inr (by simp [leavesBy, ackedBy, hn]))
    | true =>
      rw [if_pos rfl]
      cases hs : e.state with
      | activeUnack =>
        exact .inr (.inl ⟨e, rfl, by simp [leavesBy, hs], by simp [ackedBy, hn, hs],
          w.ackEntry_activeUnack i e hs⟩)
      | activeAck =>
        exact .inr (.inr ⟨by simp [leavesBy, hs], by simp [leavesBy, ackedBy, hs],
          w.ackEntry_activeAck i e hs⟩)
      | clearedUnack =>
        cases hl : e.latching with
        | true =>
          exact .inr (.inr ⟨by simp [leavesBy, hl], by simp [leavesBy, ackedBy, hs, hl],
            w.ackEntry_latched i e hs hl⟩)
        | false =>
          exact .inl ⟨by simp [leavesBy, hn, hs, hl], w.ackEntry_cleared i e hs hl⟩

theorem Slot.acknowledged_leaves (named : Domain → Bool) (sl : Slot)
    (h : sl.holds (leavesBy named) = true) : sl.acknowledged named = ⟨sl.gen + 1, none⟩ := by
  obtain ⟨e, he, hl⟩ := (holds_iff _ _).mp h
  unfold Slot.acknowledged
  rw [he]
  exact if_pos hl

theorem Slot.acknowledged_acked (named : Domain → Bool) (sl : Slot) (e : Entry)
    (he : sl.entry = some e) (hl : leavesBy named e = false) (ha : ackedBy named e = true) :
    sl.acknowledged named = ⟨sl.gen, some { e with state := .activeAck }⟩ := by
  unfold Slot.acknowledged
  rw [he]
  dsimp only
  rw [if_neg (Bool.eq_false_iff.mp hl), if_pos ha]

/-- What a visit of any index leaves of the table (R24, R95). -/
theorem Work.ackVisit_visits (named : Domain → Bool) (w : Work) (i : Fin 128) :
    (w.ackVisit named i).slots[i] = w.slots[i].acknowledged named
      ∧ (∀ j : Fin 128, j ≠ i → j.val < Config.generalSize →
        (w.ackVisit named i).slots[j] = w.slots[j])
      ∧ (∀ d, tableFullIndex d ≠ i → (w.ackVisit named i).slots[tableFullIndex d]
        = (w.slots[tableFullIndex d]).eased (w.slots[i].holds (leavesBy named)
          && roomFor (w.ackVisit named i).slots w.reserve d))
      ∧ (w.ackVisit named i).reserve = w.reserve := by
  rcases w.ackVisit_cases named i with ⟨leaves, work⟩ | ⟨e, he, stays, acked, work⟩
    | ⟨stays, same, work⟩
  · obtain ⟨e, he, _⟩ := (holds_iff _ _).mp leaves
    rw [work, Slot.acknowledged_leaves named _ leaves, leaves]
    refine ⟨w.slots_retire_self i e he, fun j hij hj => w.slots_retire_general i j hij hj,
      fun d hd => ?_, (w.retire_silent i).reserve⟩
    rw [Bool.true_and]
    exact w.slots_retire_reserved i e he d hd
  · rw [work, Slot.acknowledged_acked named _ e he stays acked, holds_some _ he, stays]
    refine ⟨(w.slots_put i i _).trans (if_pos rfl),
      fun j hij _ => (w.slots_put i j _).trans (if_neg (Ne.symm hij)), fun d hd => ?_, rfl⟩
    rw [Bool.false_and, Slot.eased_false]
    exact (w.slots_put i _ _).trans (if_neg (Ne.symm hd))
  · rw [work, same, stays]
    exact ⟨rfl, fun j _ _ => rfl, fun d _ => by rw [Bool.false_and, Slot.eased_false], rfl⟩

theorem frees_acknowledged (named : Domain → Bool) :
    Frees (Slot.holds (leavesBy named)) (Slot.acknowledged named) := by
  refine ⟨fun sl h => ?_, fun sl hp h => ?_⟩
  · unfold Slot.acknowledged
    rw [h]
    exact h
  · unfold Slot.acknowledged at h
    cases he : sl.entry with
    | none => rfl
    | some e =>
      rw [holds_some _ he] at hp
      rw [he] at h
      dsimp only at h
      rw [if_neg (Bool.eq_false_iff.mp hp)] at h
      split at h
      · cases h
      · exact absurd (he.symm.trans h) (by simp)

theorem Work.ackVisit_general (named : Domain → Bool) (w : Work) (i : Fin 128)
    (hi : i.val < Config.generalSize) :
    Work.Visits (Slot.holds (leavesBy named)) (Slot.acknowledged named) w
      (w.ackVisit named i) i := by
  obtain ⟨self, general, reserved, reserve⟩ := w.ackVisit_visits named i
  exact ⟨self, general, fun d => reserved d (general_ne_reserved i hi d), reserve⟩

/-! ## The general entries -/

/-- ACK-ALL over general indices: the table, and what it has counted. -/
theorem ackAll_general (mask : Byte) (l : List (Fin 128)) (hl : ∀ i ∈ l, i.val < Config.generalSize)
    (nodup : l.Nodup) (a : AckAll) : l.foldl (AckAll.visit mask) a =
      { work := l.foldl (Work.ackVisit (maskNames mask)) a.work
        acked := a.acked + l.countP fun i => a.work.slots[i].holds (ackedBy (maskNames mask))
        left := a.left + l.countP fun i => a.work.slots[i].holds (heldBy (maskNames mask)) } := by
  induction l generalizing a with
  | nil => rfl
  | cons i rest ih =>
    obtain ⟨fresh, nodup⟩ := List.nodup_cons.mp nodup
    have first := a.work.ackVisit_general (maskNames mask) i (hl i List.mem_cons_self)
    have others : ∀ (p : Entry → Bool), rest.countP
        (fun k => (a.work.ackVisit (maskNames mask) i).slots[k].holds p)
        = rest.countP fun k => a.work.slots[k].holds p := fun p =>
      List.countP_congr fun k hk => by
        rw [first.general k (fun h => fresh (h ▸ hk)) (hl k (List.mem_cons_of_mem i hk))]
    rw [List.foldl_cons, List.foldl_cons, ih (fun k hk => hl k (List.mem_cons_of_mem i hk)) nodup,
      AckAll.visit_eq]
    dsimp only
    have one : ∀ b : Bool, (if b = true then 1 else 0) = b.toNat := by decide
    rw [others, others, List.countP_cons, List.countP_cons, one, one]
    congr 1 <;> omega

/-! ## The reserved entries -/

theorem eased_holds_acked (named : Domain → Bool) (sl : Slot) (b : Bool) :
    (sl.eased b).holds (ackedBy named)
      = sl.holds fun e => ackedBy named e && (e.latching || !b) := by
  cases b with
  | false =>
    rw [Slot.eased_false]
    simp
  | true =>
    cases he : sl.entry with
    | none => rw [Slot.eased_none _ _ he, holds_none _ he, holds_none _ he]
    | some e =>
      rw [Slot.eased_true sl e he,
        holds_some (fun e => ackedBy named e && (e.latching || !true)) he]
      cases hl : e.latching with
      | true => rw [if_pos rfl, holds_some _ he, Bool.true_or, Bool.and_true]
      | false =>
        rw [if_neg Bool.false_ne_true]
        cases hs : e.state with
        | activeUnack => simp [Slot.holds, ackedBy]
        | activeAck => simp [Slot.holds]
        | clearedUnack => simp [holds_some _ he, ackedBy, hs]

theorem eased_holds_held (named : Domain → Bool) (sl : Slot) (b : Bool) :
    (sl.eased b).holds (heldBy named) = sl.holds (heldBy named) := by
  rcases sl.eased_cases b with same | ⟨e, he, hl, _, cleared⟩ | ⟨_, ⟨e, he, hl, hs⟩, retired⟩
  · rw [same]
  · rw [cleared, holds_some _ rfl, holds_some _ he]
    simp [heldBy, hl]
  · rw [retired, holds_none _ rfl, holds_some _ he]
    simp [heldBy, hl]

/-- What ACK-ALL has done of the named domains: the table after it, the entries acknowledged and
those left as latched; eased tells the TABLE FULL entries that were cleared before the command came
to them (R95, R173). -/
structure AckAll.Done (named : Domain → Bool) (w : Work) (a : AckAll) : Prop where
  general : ∀ j : Fin 128, j.val < Config.generalSize →
    a.work.slots[j] = w.slots[j].acknowledged named
  acked : ∀ eased : Domain → Bool,
    eased .unit = ((generalIndices.any fun i => w.slots[i].holds (leavesBy named))
      && roomFor a.work.slots w.reserve .unit) →
    eased .field = (((generalIndices.any fun i => w.slots[i].holds (leavesBy named))
      || (w.slots[tableFullIndex .unit]).holds (leavesBy named))
        && roomFor a.work.slots w.reserve .field) →
    a.acked = (generalIndices.countP fun i => w.slots[i].holds (ackedBy named))
      + ((w.slots[tableFullIndex .unit]).holds fun e =>
          ackedBy named e && (e.latching || !eased .unit)).toNat
      + ((w.slots[tableFullIndex .field]).holds fun e =>
          ackedBy named e && (e.latching || !eased .field)).toNat
  left : a.left = (generalIndices.countP fun i => w.slots[i].holds (heldBy named))
    + ((w.slots[tableFullIndex .unit]).holds (heldBy named)).toNat
    + ((w.slots[tableFullIndex .field]).holds (heldBy named)).toNat

/-- The visits of the TABLE FULL entries, after those of the general ones: how each stands when the
command comes to it (R95). -/
theorem Work.ackVisit_reserved (named : Domain → Bool) (w w1 : Work)
    (visits : Work.VisitsAll (Slot.holds (leavesBy named)) (Slot.acknowledged named) w w1
      generalIndices) (w2 w3 : Work) (second : w2 = w1.ackVisit named (tableFullIndex .unit))
    (third : w3 = w2.ackVisit named (tableFullIndex .field)) :
    (∀ j : Fin 128, j.val < Config.generalSize → w3.slots[j] = w.slots[j].acknowledged named)
      ∧ w1.slots[tableFullIndex .unit] = (w.slots[tableFullIndex .unit]).eased
        ((generalIndices.any fun i => w.slots[i].holds (leavesBy named))
          && roomFor w3.slots w.reserve .unit)
      ∧ w2.slots[tableFullIndex .field] = (w.slots[tableFullIndex .field]).eased
        (((generalIndices.any fun i => w.slots[i].holds (leavesBy named))
          || (w.slots[tableFullIndex .unit]).holds (leavesBy named))
            && roomFor w3.slots w.reserve .field) := by
  obtain ⟨_, general2, other2, _⟩ := w1.ackVisit_visits named (tableFullIndex .unit)
  obtain ⟨_, general3, _, _⟩ := w2.ackVisit_visits named (tableFullIndex .field)
  rw [← second] at general2 other2
  rw [← third] at general3
  have outside : ∀ (j : Fin 128), j.val < Config.generalSize → ∀ d, j ≠ tableFullIndex d :=
    fun j hj d => Ne.symm (general_ne_reserved j hj d)
  have free2 := freeCount_of_general fun j hj => general2 j (outside j hj .unit) hj
  have free3 := freeCount_of_general fun j hj => general3 j (outside j hj .field) hj
  have room1 : ∀ d, roomFor w1.slots w.reserve d = roomFor w3.slots w.reserve d :=
    fun d => roomFor_congr (free2.symm.trans free3.symm) _ d
  have room2 : roomFor w2.slots w.reserve .field = roomFor w3.slots w.reserve .field :=
    roomFor_congr free3.symm _ .field
  have unit1 := visits.reserved .unit
  have field1 := visits.reserved .field
  have field2 := other2 .field (by decide)
  rw [room1] at unit1 field1
  rw [visits.reserve, room2, unit1, field1, Slot.eased_eased, ← Bool.and_or_distrib_right,
    Slot.holds_eased] at field2
  refine ⟨fun j hj => ?_, unit1, field2⟩
  rw [general3 j (outside j hj .field) hj, general2 j (outside j hj .unit) hj, visits.general j hj]
  exact if_pos (by unfold generalIndices; simpa using hj)

theorem ackAll_done (mask : Byte) (w : Work) : (ackAll mask w).Done (maskNames mask) w := by
  have visits : Work.VisitsAll (Slot.holds (leavesBy (maskNames mask)))
      (Slot.acknowledged (maskNames mask)) w
      (generalIndices.foldl (Work.ackVisit (maskNames mask)) w) generalIndices :=
    Work.visitsAll_foldl (frees_acknowledged _) _ (fun w i hi => w.ackVisit_general _ i hi) _
      generalIndices_general generalIndices_nodup w
  unfold ackAll
  rw [indices_eq, List.foldl_append,
    ackAll_general mask generalIndices generalIndices_general generalIndices_nodup]
  simp only [List.foldl_cons, List.foldl_nil, AckAll.visit_eq, Nat.zero_add]
  obtain ⟨general, unit, field⟩ := Work.ackVisit_reserved (maskNames mask) w _ visits _ _ rfl rfl
  refine ⟨general, fun eased hunit hfield => ?_, ?_⟩
  · rw [unit, field, eased_holds_acked, eased_holds_acked, ← hunit, ← hfield]
  · rw [unit, field, eased_holds_held, eased_holds_held]

/-! ## The answer -/

theorem mem_generalIndices (i : Fin 128) : i ∈ generalIndices ↔ i.val < Config.generalSize := by
  unfold generalIndices
  simp

/-- A count over the table, the TABLE FULL entries apart. -/
theorem countP_indices (p : Fin 128 → Bool) : (List.finRange 128).countP p
    = generalIndices.countP p + (p (tableFullIndex .unit)).toNat
      + (p (tableFullIndex .field)).toNat := by
  have one : ∀ b : Bool, (if b = true then 1 else 0) = b.toNat := by decide
  have all : (List.finRange 128).countP p = indices.countP p := rfl
  rw [all, indices_eq, List.countP_append, List.countP_cons, List.countP_cons, List.countP_nil, one,
    one]
  omega

theorem AckAll.Done.left_eq {named : Domain → Bool} {w : Work} {a : AckAll} (h : a.Done named w) :
    a.left = countEntries w.slots (heldBy named) := by
  rw [h.left, countEntries_eq_finRange, countP_indices]

/-- The entry at an index is acknowledged unless it is a TABLE FULL entry that has been eased before
the command comes to it. -/
def ackedAt (named eased : Domain → Bool) (i : Fin 128) (e : Entry) : Bool :=
  named e.domain && e.state == .activeUnack
    && (e.latching || (i.val != 126 || !eased .unit) && (i.val != 127 || !eased .field))

theorem ackedAt_general (named eased : Domain → Bool) (i : Fin 128)
    (hi : i.val < Config.generalSize) :
    ackedAt named eased i = ackedBy named := by
  have bound : i.val < 126 := hi
  have unit : (i.val != 126) = true := by simp; omega
  have field : (i.val != 127) = true := by simp; omega
  funext e
  unfold ackedAt ackedBy
  rw [unit, field]
  simp

theorem ackedAt_reserved (named eased : Domain → Bool) (d : Domain) :
    ackedAt named eased (tableFullIndex d)
      = fun e => ackedBy named e && (e.latching || !eased d) := by
  funext e
  unfold ackedAt ackedBy
  cases d with
  | unit => simp [tableFullIndex]
  | field => simp [tableFullIndex]

theorem countP_ackedAt (named eased : Domain → Bool) (slots : Vector Slot 128) :
    ((List.finRange 128).countP fun i => slots[i].holds (ackedAt named eased i))
      = (generalIndices.countP fun i => slots[i].holds (ackedBy named))
        + ((slots[tableFullIndex .unit]).holds fun e =>
            ackedBy named e && (e.latching || !eased .unit)).toNat
        + ((slots[tableFullIndex .field]).holds fun e =>
            ackedBy named e && (e.latching || !eased .field)).toNat := by
  have general : (generalIndices.countP fun i => slots[i].holds (ackedAt named eased i))
      = generalIndices.countP fun i => slots[i].holds (ackedBy named) :=
    List.countP_congr fun i hi => by
      rw [ackedAt_general named eased i (generalIndices_general i hi)]
  rw [countP_indices, general, ackedAt_reserved, ackedAt_reserved]

theorem any_general (slots : Vector Slot 128) (p : Entry → Bool) :
    (generalIndices.any fun i => slots[i].holds p) = true
      ↔ ∃ i : Fin 128, i.val < 126 ∧ slots[i].holds p = true := by
  rw [List.any_eq_true]
  simp only [mem_generalIndices]
  rfl

theorem exec_ackAll (s : State) (h : s.takes) (hg : s.grantsWindow) :
    exec (.ackAll .free) s = .next (workAckAll (s.atGrant 0x51)) :=
  congrArg _ (giveRequest_free _ _ s h hg)

theorem workAckAll_refused (u : State)
    (h : ¬ (1 ≤ (u.window.argAt 0).toNat ∧ (u.window.argAt 0).toNat ≤ 3)) :
    workAckAll u = complete 0x02 [] u := if_neg h

/-- The state after ACK-ALL of a mask. -/
def State.ackedAll (s : State) (mask : Byte) (a : AckAll) : State :=
  complete 0x00 [mask, byte a.acked,
    byte (standingCount s.engine.slots - standingCount a.work.slots), byte a.left]
    (handOff (s.atGrant 0x51) a.work)

theorem workAckAll_granted (s : State) (h : 1 ≤ (s.arguments.argAt 0).toNat)
    (h' : (s.arguments.argAt 0).toNat ≤ 3) : workAckAll (s.atGrant 0x51)
      = s.ackedAll (s.arguments.argAt 0) (ackAll (s.arguments.argAt 0) (taking s)) := by
  have mask : (s.atGrant 0x51).window.argAt 0 = s.arguments.argAt 0 := rfl
  have table : taking (s.atGrant 0x51) = taking s := rfl
  unfold workAckAll
  dsimp only
  rw [mask, table, if_pos ⟨h, h'⟩]
  generalize ackAll (s.arguments.argAt 0) (taking s) = a
  rfl

theorem Slot.acknowledged_free (named : Domain → Bool) (sl : Slot) (h : sl.entry = none) :
    sl.acknowledged named = sl := by
  unfold Slot.acknowledged
  rw [h]

theorem Slot.acknowledged_other (named : Domain → Bool) (sl : Slot) (e : Entry)
    (h : sl.entry = some e) (hl : leavesBy named e = false) (ha : ackedBy named e = false) :
    sl.acknowledged named = sl := by
  unfold Slot.acknowledged
  rw [h]
  dsimp only
  rw [if_neg (Bool.eq_false_iff.mp hl), if_neg (Bool.eq_false_iff.mp ha)]

/-- What ACK-ALL leaves of an entry, by the entry's domain and state (R24, R173). -/
theorem Slot.acknowledged_by_state (named : Domain → Bool) (sl : Slot) (e : Entry)
    (h : sl.entry = some e) :
    (named e.domain = false → sl.acknowledged named = sl)
      ∧ (named e.domain = true →
        (e.state = .activeUnack →
            sl.acknowledged named = ⟨sl.gen, some { e with state := .activeAck }⟩)
        ∧ (e.state = .activeAck → sl.acknowledged named = sl)
        ∧ (e.state = .clearedUnack → e.latching = true → sl.acknowledged named = sl)
        ∧ (e.state = .clearedUnack → e.latching = false →
            sl.acknowledged named = ⟨sl.gen + 1, none⟩)) := by
  refine ⟨fun hn => ?_, fun hn => ⟨fun hs => ?_, fun hs => ?_, fun hs hl => ?_, fun hs hl => ?_⟩⟩
  · exact sl.acknowledged_other named e h (by simp [leavesBy, hn]) (by simp [ackedBy, hn])
  · exact sl.acknowledged_acked named e h (by simp [leavesBy, hs]) (by simp [ackedBy, hn, hs])
  · exact sl.acknowledged_other named e h (by simp [leavesBy, hs]) (by simp [ackedBy, hs])
  · exact sl.acknowledged_other named e h (by simp [leavesBy, hl]) (by simp [ackedBy, hs])
  · refine sl.acknowledged_leaves named ?_
    rw [holds_some _ h]
    simp [leavesBy, hn, hs, hl]

/-- Settles O27. -/
theorem ackAllAnswers : Obligations.AckAllAnswers := by
  unfold Obligations.AckAllAnswers
  intro s mask named leaves h hg hmask hnamed hleaves
  obtain rfl : named = maskNames mask := by
    funext d
    rw [hnamed d]
    cases d <;> rfl
  obtain rfl : leaves = leavesBy (maskNames mask) := funext hleaves
  subst hmask
  refine ⟨fun bad => ?_, fun low high => ?_⟩
  · rw [exec_ackAll s h hg, workAckAll_refused, complete_atGrant]
    rintro ⟨low, high⟩
    rcases bad with zero | large
    · rw [show (s.atGrant 0x51).window.argAt 0 = 0 from zero] at low
      exact absurd low (by decide)
    · exact absurd high (Nat.not_le.mpr large)
  · have done := ackAll_done (s.arguments.argAt 0) (taking s)
    have quiet := ackAll_silent (s.arguments.argAt 0) (taking s)
    rw [exec_ackAll s h hg, workAckAll_granted s low high]
    generalize ackAll (s.arguments.argAt 0) (taking s) = a at done quiet
    generalize s.arguments.argAt 0 = mask at done
    obtain ⟨summary, seqNext, seqSpent⟩ := silent_handOff s a.work 0x51 0x00
      [mask, byte a.acked, byte (standingCount s.engine.slots - standingCount a.work.slots),
        byte a.left] quiet
    refine ⟨s.ackedAll mask a, a.acked, rfl, ?_, fun eased general hgeneral hunit hfield => ?_,
      summary, seqNext, seqSpent, fun i hi => ?_⟩
    · have answer := answeredWith_handOff s a.work 0x51 0x00
        [mask, byte a.acked, byte (standingCount s.engine.slots - standingCount a.work.slots),
          byte a.left]
      have left : a.left = countEntries s.engine.slots (heldBy (maskNames mask)) := done.left_eq
      rw [left] at answer
      unfold State.ackedAll
      rw [left]
      exact answer
    · refine (done.acked eased ?_ ?_).trans (countP_ackedAt _ eased s.engine.slots).symm
      · rw [Bool.eq_iff_iff, hunit, Bool.and_eq_true, roomFor_iff, hgeneral]
        exact and_congr_left' (any_general _ _).symm
      · rw [Bool.eq_iff_iff, hfield, Bool.and_eq_true, roomFor_iff, Bool.or_eq_true, hgeneral]
        exact and_congr_left' (or_congr_left (any_general _ _).symm)
    · have slot := done.general i hi
      have at_slot : (s.ackedAll mask a).engine.slots[i]
          = s.engine.slots[i].acknowledged (maskNames mask) := slot
      rw [at_slot]
      exact ⟨fun free => Slot.acknowledged_free _ _ free,
        fun e he => Slot.acknowledged_by_state _ _ e he⟩

end Sys2Proof.Machine

/-!
The window's requests: how one waits, and that its later grant does what a grant at its taking would
have done (R14, R192, R197).
-/

namespace Sys2Proof.Machine

/-! ## The state as its request would have found it at the taking -/

/-- The state of a waiting request as its command, taken now with the copied arguments as ARG, would
make it (R192). -/
def State.asTaken (v : State) : State :=
  { v with
    port := .released
    clkPresent := true
    window := { v.window with
      arg := v.window.argCopy, result := 0, resp := Vector.replicate 48 0, overrun := false,
      cmdState := .busy, heldSummary := none, heldCounts := none } }

/-- ARG, OVERRUN, the port and a running transaction's snapshots of v put back into t, and, where
the command is still BUSY in t, RESULT, RESP and the command state of v too. -/
def State.putBack (t v : State) : State :=
  { t with
    port := v.port
    clkPresent := v.clkPresent
    window := { t.window with
      arg := v.window.arg, overrun := v.window.overrun, heldSummary := v.window.heldSummary,
      heldCounts := v.window.heldCounts,
      result := if t.window.cmdState = .busy then v.window.result else t.window.result,
      resp := if t.window.cmdState = .busy then v.window.resp else t.window.resp,
      cmdState := if t.window.cmdState = .busy then v.window.cmdState else t.window.cmdState } }

/-- The parts of a state that a request's work does not read and, short of completing its command,
does not change. -/
structure SameAside (v t : State) : Prop where
  port : t.port = v.port
  clkPresent : t.clkPresent = v.clkPresent
  arg : t.window.arg = v.window.arg
  overrun : t.window.overrun = v.window.overrun
  heldSummary : t.window.heldSummary = v.window.heldSummary
  heldCounts : t.window.heldCounts = v.window.heldCounts
  result : t.window.result = v.window.result
  resp : t.window.resp = v.window.resp
  cmdState : t.window.cmdState = v.window.cmdState
  lastGranted : t.engine.lastGranted = v.engine.lastGranted
  waiting : t.window.waiting = v.window.waiting

theorem SameAside.refl (v : State) : SameAside v v := by constructor <;> rfl

theorem SameAside.trans {v x t : State} (h : SameAside v x) (h' : SameAside x t) : SameAside v t :=
  ⟨h'.port.trans h.port, h'.clkPresent.trans h.clkPresent, h'.arg.trans h.arg,
    h'.overrun.trans h.overrun, h'.heldSummary.trans h.heldSummary,
    h'.heldCounts.trans h.heldCounts, h'.result.trans h.result, h'.resp.trans h.resp,
    h'.cmdState.trans h.cmdState, h'.lastGranted.trans h.lastGranted, h'.waiting.trans h.waiting⟩

theorem putBack_congr {v x : State} (h : SameAside v x) (t : State) :
    t.putBack x = t.putBack v := by
  unfold State.putBack
  rw [h.port, h.clkPresent, h.arg, h.overrun, h.heldSummary, h.heldCounts, h.result, h.resp,
    h.cmdState]

theorem asTaken_putBack (v : State) : v.asTaken.putBack v = v := rfl

theorem complete_putBack (result : Byte) (response : List Byte) (v : State) :
    (complete result response v.asTaken).putBack v = complete result response v := by
  have finished : ¬ (complete result response v.asTaken).window.cmdState = .busy :=
    completes_ne_busy result
  unfold State.putBack
  simp only [if_neg finished]
  rfl

/-! ## Work that does not look aside -/

/-- The operation neither reads nor changes the parts aside. -/
structure Blind (X : State → State) : Prop where
  asTaken : ∀ v, X v.asTaken = (X v).asTaken
  aside : ∀ v, SameAside v (X v)

theorem Blind.id : Blind fun v => v := ⟨fun _ => rfl, SameAside.refl⟩

theorem Blind.comp {X Y : State → State} (hX : Blind X) (hY : Blind Y) : Blind fun v => Y (X v) :=
  ⟨fun v => by rw [hX.asTaken, hY.asTaken], fun v => (hX.aside v).trans (hY.aside (X v))⟩

theorem blind_handOff (w : Work) : Blind fun v => handOff v w :=
  ⟨fun _ => rfl, fun v => by constructor <;> rfl⟩

theorem blind_setCursor (n : Byte) (c : Cursor) : Blind fun v => setCursor n c v :=
  ⟨fun _ => rfl, fun v => by constructor <;> rfl⟩

theorem blind_expireIfDue : Blind expireIfDue := by
  refine ⟨fun v => ?_, fun v => ?_⟩
  · rw [expireIfDue_eq, expireIfDue_eq]
    rfl
  · rw [expireIfDue_eq]
    constructor <;> rfl

theorem blind_writeLimits (l : Limits) : Blind (writeLimits l) :=
  ⟨fun _ => rfl, fun v => by constructor <;> rfl⟩

theorem blind_committed (w : Work) : Blind fun v => v.committed w := by
  refine ⟨fun v => ?_, fun v => ?_⟩
  · rw [committed_eq, committed_eq]
    rfl
  · rw [committed_eq]
    constructor <;> rfl

theorem blind_warmRestarted (w : Work) : Blind fun v => v.warmRestarted w := by
  refine ⟨fun v => ?_, fun v => ?_⟩
  · unfold State.warmRestarted
    rw [restartOwners_eq, restartOwners_eq]
    rfl
  · unfold State.warmRestarted
    rw [restartOwners_eq]
    constructor <;> rfl

/-- The outcome a of a granted request on v is the outcome b on v as taken, the parts aside put
back; the source granted last and the waiting flag stay. -/
structure GrantsAlike (v a b : State) : Prop where
  putBack : a = b.putBack v
  lastGranted : a.engine.lastGranted = v.engine.lastGranted
  waiting : a.window.waiting = v.window.waiting

theorem GrantsAlike.busy {X : State → State} (h : Blind X) (v : State) :
    GrantsAlike v (X v) (X v.asTaken) := by
  refine ⟨?_, (h.aside v).lastGranted, (h.aside v).waiting⟩
  rw [h.asTaken, ← putBack_congr (h.aside v), asTaken_putBack]

theorem GrantsAlike.completed {X : State → State} (h : Blind X) (v : State) (result : Byte)
    (response : List Byte) :
    GrantsAlike v (complete result response (X v)) (complete result response (X v.asTaken)) := by
  refine ⟨?_, (h.aside v).lastGranted, (h.aside v).waiting⟩
  rw [h.asTaken, ← putBack_congr (h.aside v), complete_putBack]

theorem GrantsAlike.answered (v : State) (result : Byte) (response : List Byte) :
    GrantsAlike v (complete result response v) (complete result response v.asTaken) :=
  .completed .id v result response

theorem GrantsAlike.handedOff (v : State) (w : Work) (result : Byte) (response : List Byte) :
    GrantsAlike v (complete result response (handOff v w))
      (complete result response (handOff v.asTaken w)) :=
  .completed (blind_handOff w) v result response

theorem GrantsAlike.ite {v a b a' b' : State} {c : Prop} [Decidable c]
    (h : c → GrantsAlike v a b) (h' : ¬ c → GrantsAlike v a' b') :
    GrantsAlike v (if c then a else a') (if c then b else b') := by
  split
  · next hc => exact h hc
  · next hc => exact h' hc

/-- The expiry that follows a completion is the same after it is put back. -/
theorem GrantsAlike.expire {v a b : State} (h : GrantsAlike v a b) :
    GrantsAlike v (expireIfDue a) (expireIfDue b) := by
  refine ⟨?_, ?_, ?_⟩
  · rw [h.putBack, expireIfDue_eq, expireIfDue_eq]
    rfl
  · exact (blind_expireIfDue.aside a).lastGranted.trans h.lastGranted
  · exact (blind_expireIfDue.aside a).waiting.trans h.waiting

/-! ## The requests -/

/-- A request's work does on a state what it does on the state as taken. -/
def Alike (work : State → State) : Prop := ∀ v, GrantsAlike v (work v) (work v.asTaken)

theorem workLookup_alike : Alike workLookup := fun v =>
  .ite (fun _ => .answered v _ _) fun _ => .answered v _ _

theorem workListClose_alike : Alike workListClose := fun v =>
  .ite (fun _ => .answered v _ _) fun _ => .completed (blind_setCursor _ _) v _ _

theorem workAck_alike : Alike workAck := by
  intro v
  by_cases outside : 127 < (v.window.argAt 0).toNat
  · rw [workAck_outside v outside, workAck_outside v.asTaken outside]
    exact .answered v _ _
  · have inside : (v.window.argAt 0).toNat < 128 := by omega
    cases found : handleEntry v.engine.slots (v.window.argAt 0) (v.window.argAt 1) with
    | none =>
      rw [workAck_stale v inside found, workAck_stale v.asTaken inside found]
      exact .answered v _ _
    | some ie =>
      rw [workAck_found v ie.1 ie.2 inside found, workAck_found v.asTaken ie.1 ie.2 inside found]
      exact .handedOff v _ _ _

theorem taking_asTaken (v : State) : taking v.asTaken = taking v := rfl

theorem argAt_asTaken (v : State) (k : Nat) : v.asTaken.window.argAt k = v.window.argAt k := rfl

theorem slots_asTaken (v : State) : v.asTaken.engine.slots = v.engine.slots := rfl

theorem workAckAll_alike : Alike workAckAll := by
  intro v
  unfold workAckAll
  dsimp only
  rw [taking_asTaken, argAt_asTaken]
  generalize ackAll (v.window.argAt 0) (taking v) = a
  exact .ite (fun _ => .handedOff v _ _ _) fun _ => .answered v _ _

theorem workRaiseApp_alike : Alike workRaiseApp := fun v =>
  .ite (fun _ => .handedOff v _ _ _) fun _ => .answered v _ _

theorem workRestoreApp_alike : Alike workRestoreApp := fun v =>
  .ite (fun _ => .handedOff v _ _ _) fun _ => .answered v _ _

theorem workGet_alike : Alike workGet := by
  intro v
  unfold workGet
  rw [argAt_asTaken, argAt_asTaken, slots_asTaken]
  refine .ite (fun _ => .answered v _ _) fun _ => ?_
  cases handleEntry v.engine.slots (v.window.argAt 0) (v.window.argAt 1) with
  | none => exact .answered v _ _
  | some ie => exact .answered v _ _

theorem openedCursor_asTaken (v : State) :
    openedCursor v.asTaken.window v.asTaken.engine.seqNext
      = openedCursor v.window v.engine.seqNext := rfl

theorem workListOpen_alike : Alike workListOpen := by
  intro v
  unfold workListOpen
  rw [openedCursor_asTaken]
  cases openedCursor v.window v.engine.seqNext with
  | none => exact .answered v _ _
  | some c => exact .completed (blind_setCursor _ c) v _ _

theorem nextMatch_alike (n : Byte) (c : Cursor) : Alike (nextMatch n c) := by
  intro v
  unfold nextMatch
  rw [slots_asTaken]
  cases oldest v.engine.slots (fun _ e => c.ahead e) indices with
  | none => exact .completed (blind_setCursor n _) v _ _
  | some found =>
    dsimp only
    cases v.engine.slots[found.1].entry with
    | none => exact .busy .id v
    | some e => exact .completed (blind_setCursor n _) v _ _

theorem cursors_asTaken (v : State) : v.asTaken.engine.cursors = v.engine.cursors := rfl

theorem workListNext_alike : Alike workListNext := by
  intro v
  unfold workListNext
  dsimp only
  rw [argAt_asTaken, cursors_asTaken]
  refine .ite (fun _ => .answered v _ _) fun _ => ?_
  cases (cursorAt v.engine.cursors (v.window.argAt 0)).state with
  | closed => exact .answered v _ _
  | opened => exact nextMatch_alike _ _ v
  | exhausted => exact .answered v _ _

theorem limitsResponse_asTaken (v : State) : limitsResponse v.asTaken = limitsResponse v := rfl

theorem limitsCheck_asTaken (v : State) : limitsCheck v.asTaken = limitsCheck v := rfl

theorem limitsArgument_asTaken (v : State) :
    limitsArgument v.asTaken.window = limitsArgument v.window := rfl

theorem workSetLimits_alike : Alike workSetLimits := by
  intro v
  have written := blind_expireIfDue.comp (blind_writeLimits (limitsArgument v.window))
  unfold workSetLimits
  rw [limitsCheck_asTaken, limitsResponse_asTaken, limitsArgument_asTaken]
  refine .ite (fun _ => ?_) fun _ => .answered v _ _
  dsimp only
  rw [written.asTaken v, limitsResponse_asTaken, ← written.asTaken v]
  exact (GrantsAlike.completed written v Result.ok _).expire

theorem workTopoCommit_alike : Alike workTopoCommit := by
  intro v
  unfold workTopoCommit
  rw [commitWork_eq, commitWork_eq, taking_asTaken]
  generalize (taking v).retireField = w
  exact .ite (fun _ => .answered v _ _) fun _ =>
    .ite (fun _ => .answered v _ _) fun _ => .busy (blind_committed w) v

theorem workWarmRestart_alike : Alike workWarmRestart := by
  intro v
  rw [workWarmRestart_eq, workWarmRestart_eq, taking_asTaken]
  exact .busy (blind_warmRestarted _) v

/-- The command c is a request of the Table Engine whose work is work (R12, R197). -/
structure RequestOf (c : (EngineAt → Instr) × Byte) (work : State → State) : Prop where
  exec : ∀ (e : EngineAt) (s : State),
    Machine.exec (c.1 e) s = .next (giveCommand c.2 (presentRequest e work) s)
  grant : ∀ v, windowWork c.2 v = work v
  alike : Alike work

theorem requestOf_command (c : (EngineAt → Instr) × Byte) (h : c ∈ requestCommands) :
    ∃ work, RequestOf c work := by
  unfold requestCommands at h
  simp only [List.mem_cons, List.not_mem_nil, or_false] at h
  rcases h with rfl | rfl | rfl | rfl | rfl | rfl | rfl | rfl | rfl | rfl | rfl | rfl
  · exact ⟨workTopoCommit, fun _ _ => rfl, fun _ => rfl, workTopoCommit_alike⟩
  · exact ⟨workSetLimits, fun _ _ => rfl, fun _ => rfl, workSetLimits_alike⟩
  · exact ⟨workLookup, fun _ _ => rfl, fun _ => rfl, workLookup_alike⟩
  · exact ⟨workGet, fun _ _ => rfl, fun _ => rfl, workGet_alike⟩
  · exact ⟨workListOpen, fun _ _ => rfl, fun _ => rfl, workListOpen_alike⟩
  · exact ⟨workListNext, fun _ _ => rfl, fun _ => rfl, workListNext_alike⟩
  · exact ⟨workListClose, fun _ _ => rfl, fun _ => rfl, workListClose_alike⟩
  · exact ⟨workAck, fun _ _ => rfl, fun _ => rfl, workAck_alike⟩
  · exact ⟨workAckAll, fun _ _ => rfl, fun _ => rfl, workAckAll_alike⟩
  · exact ⟨workRaiseApp, fun _ _ => rfl, fun _ => rfl, workRaiseApp_alike⟩
  · exact ⟨workRestoreApp, fun _ _ => rfl, fun _ => rfl, workRestoreApp_alike⟩
  · exact ⟨workWarmRestart, fun _ _ => rfl, fun _ => rfl, workWarmRestart_alike⟩

/-! ## Waiting and granting -/

theorem presentRequest_waits (e : EngineAt) (work : State → State) (s : State) (code : Byte)
    (h : e = .engaged ∨ ¬ s.grantsWindow) :
    presentRequest e work (s.taken code) = s.waitsWith code := by
  have not_now : ¬ (e = .free
      ∧ ({ s.taken code with window.waiting := true } : State).nextGrant = some .window) := by
    rintro ⟨free, grant⟩
    rcases h with engaged | not_granted
    · rw [engaged] at free
      cases free
    · exact not_granted grant
  exact if_neg not_now

theorem exec_windowRequestGrant (u : State) (live : u.live = true)
    (waiting : u.window.waiting = true) (grant : u.nextGrant = some .window) :
    exec .windowRequestGrant u
      = .next (windowWork u.window.cmd { granted .window u with window.waiting := false }) := by
  have due : u.windowGranted = true := by
    unfold State.windowGranted
    rw [live, waiting, grant]
    rfl
  exact congrArg Host.Outcome.next (if_pos due)

/-- The state in which a waiting command would be taken now is granted with the command as the
waiting request's own state, as taken (R14, R192). -/
theorem asTaken_command (u s : State) (live : u.live = true) (waiting : u.window.waiting = true)
    (grant : u.nextGrant = some .window)
    (hs : s = { u with
      port := .released
      clkPresent := true
      window := { u.window with arg := u.window.argCopy, cmdState := .idle } }) :
    s.takes ∧ s.grantsWindow
      ∧ ({ granted .window u with window.waiting := false } : State).asTaken
        = s.atGrant u.window.cmd := by
  subst hs
  have waits : ({ u with window.waiting := true } : State) = u := by rw [← waiting]
  refine ⟨⟨(clocked_iff _).mpr ⟨live, rfl⟩, Port.noConfusion, CmdState.noConfusion⟩, ?_, rfl⟩
  rw [← waits] at grant
  exact grant

/-- Settles O11. -/
theorem windowRequestsWaitAndAreGranted : Obligations.WindowRequestsWaitAndAreGranted := by
  unfold Obligations.WindowRequestsWaitAndAreGranted
  refine ⟨fun c s hc h => ?_, fun c u s hc live waiting cmd grant hs => ?_⟩
  · obtain ⟨work, request⟩ := requestOf_command c hc
    refine ⟨fun e he => ?_, fun hg => ⟨work (s.atGrant c.2), ?_, ?_, ?_, ?_⟩⟩
    · rw [request.exec, giveCommand_takes _ _ s h, presentRequest_waits e work s c.2 he]
    · have live : (s.waitsWith c.2).live = true := ((clocked_iff s).mp h.1).1
      rw [exec_windowRequestGrant _ live rfl hg]
      exact congrArg Host.Outcome.next (request.grant _)
    · rw [request.exec, giveRequest_free _ _ s h hg]
    · exact (request.alike (s.atGrant c.2)).lastGranted
    · exact (request.alike (s.atGrant c.2)).waiting
  · obtain ⟨work, request⟩ := requestOf_command c hc
    obtain ⟨htakes, hgrants, same⟩ := asTaken_command u s live waiting grant hs
    have alike := request.alike { granted .window u with window.waiting := false }
    rw [same, cmd] at alike
    refine ⟨work (s.atGrant c.2), ?_, ?_⟩
    · rw [request.exec, giveRequest_free _ _ s htakes hgrants]
    · rw [exec_windowRequestGrant u live waiting grant, cmd, request.grant]
      exact congrArg Host.Outcome.next alike.putBack

end Sys2Proof.Machine


/-!
Group policy: the executed action step by step (R36), and GROUP-SET's argument, its checks and its
answer (R43, R44).
-/

namespace Sys2Proof.Machine

/-! ## The executed action -/

theorem executedAction_notice (g : GroupRecord) (m : Mode) (esc : Bool) :
    executedAction g m .notice esc = .notice := if_pos rfl

/-- An action above NOTICE is lowered to DIAGNOSTIC exactly where it is FATAL (R36, step 4). -/
theorem lowerOfDiagnostic_eq (base : Action) :
    (if Action.rank base ≤ Action.rank .diagnostic then base else .diagnostic)
      = if base = .fatal then .diagnostic else base := by
  cases base <;> rfl

theorem executedAction_not_notice (g : GroupRecord) (m : Mode) (logged : Action) (esc : Bool)
    (h : logged ≠ .notice) :
    executedAction g m logged esc
      = if m = .run ∧ g.runDemoted = true then
          (if baseAction g logged esc = .fatal then .diagnostic else baseAction g logged esc)
        else baseAction g logged esc := by
  unfold executedAction
  rw [if_neg h, ← ite_and]
  simp only [and_assoc]

/-- Settles O36. -/
theorem executedActionSteps : Obligations.ExecutedActionSteps := by
  unfold Obligations.ExecutedActionSteps
  intro g m logged esc
  refine ⟨?_, ?_⟩
  · rintro rfl
    exact executedAction_notice g m esc
  · rintro standing base rfl
    rw [lowerOfDiagnostic_eq]
    exact executedAction_not_notice g m logged esc standing

/-! ## The coded bytes of an argument -/

/-- A yes/no byte gives exactly the item that it codes (R198). -/
theorem boolOfByte_eq_some (b : Byte) (x : Bool) : boolOfByte b = some x ↔ b = bit x := by
  constructor
  · intro h
    unfold boolOfByte at h
    split at h
    · next zero => cases h; exact beq_iff_eq.mp zero
    · split at h
      · next one => cases h; exact beq_iff_eq.mp one
      · cases h
  · rintro rfl
    cases x <;> rfl

theorem Domain.ofByte_eq_some (b : Byte) (d : Domain) :
    Domain.ofByte b = some d ↔ b = d.code := by
  constructor
  · intro h
    unfold Domain.ofByte at h
    split at h
    · next zero => cases h; exact beq_iff_eq.mp zero
    · split at h
      · next one => cases h; exact beq_iff_eq.mp one
      · cases h
  · rintro rfl
    cases d <;> rfl

theorem Action.ofByte_eq_some (b : Byte) (a : Action) :
    Action.ofByte b = some a ↔ b = a.code := by
  constructor
  · intro h
    unfold Action.ofByte at h
    split at h
    · next zero => cases h; exact beq_iff_eq.mp zero
    · split at h
      · next one => cases h; exact beq_iff_eq.mp one
      · split at h
        · next two => cases h; exact beq_iff_eq.mp two
        · cases h
  · rintro rfl
    cases a <;> rfl

theorem Action.configuredOfByte_eq_some (b : Byte) (a : Action) :
    Action.configuredOfByte b = some a ↔ b = a.code ∧ a ≠ .notice := by
  constructor
  · intro h
    refine ⟨?_, Action.configuredOfByte_ne_notice b a h⟩
    unfold Action.configuredOfByte at h
    split at h
    · next one => cases h; exact beq_iff_eq.mp one
    · split at h
      · next two => cases h; exact beq_iff_eq.mp two
      · cases h
  · rintro ⟨rfl, configured⟩
    cases a with
    | notice => exact absurd rfl configured
    | diagnostic => rfl
    | fatal => rfl

theorem exists_bit_iff (b : Byte) : (∃ x, b = bit x) ↔ b.toNat ≤ 1 := by
  have byte_cases : b.toNat ≤ 1 ↔ b = 0 ∨ b = 1 := by bv_omega
  rw [byte_cases]
  exact Bool.exists_bool

theorem exists_domainCode_iff (b : Byte) : (∃ d : Domain, b = d.code) ↔ b.toNat ≤ 1 := by
  constructor
  · rintro ⟨d, rfl⟩
    cases d <;> decide
  · intro h
    obtain ⟨d, given⟩ := ofByte_some b h
    exact ⟨d, (Domain.ofByte_eq_some b d).mp given⟩

theorem exists_actionCode_iff (b : Byte) : (∃ a : Action, b = a.code) ↔ b.toNat ≤ 2 := by
  constructor
  · rintro ⟨a, rfl⟩
    cases a <;> decide
  · intro h
    have byte_cases : b = 0 ∨ b = 1 ∨ b = 2 := by bv_omega
    rcases byte_cases with rfl | rfl | rfl
    · exact ⟨.notice, rfl⟩
    · exact ⟨.diagnostic, rfl⟩
    · exact ⟨.fatal, rfl⟩

theorem exists_configuredCode_iff (b : Byte) :
    (∃ a : Action, b = a.code ∧ a ≠ .notice) ↔ b = 1 ∨ b = 2 := by
  constructor
  · rintro ⟨a, rfl, configured⟩
    cases a with
    | notice => exact absurd rfl configured
    | diagnostic => exact .inl rfl
    | fatal => exact .inr rfl
  · rintro (rfl | rfl)
    · exact ⟨.diagnostic, rfl, Action.noConfusion⟩
    · exact ⟨.fatal, rfl, Action.noConfusion⟩

/-- A summary bit is a byte of at most 15, cut to its four bits (R30). -/
theorem summaryBit_iff (b : Byte) (x : BitVec 4) :
    b.toNat ≤ 15 ∧ b.setWidth 4 = x ↔ b = x.setWidth 8 := by
  constructor
  · rintro ⟨range, rfl⟩
    bv_omega
  · rintro rfl
    bv_omega

theorem num16_lt (hi lo : Byte) : num16 hi lo < 65536 := by
  unfold num16
  omega

/-- The two bytes of a number spell it (R187). -/
theorem be16_num16 (hi lo : Byte) : be16 (num16 hi lo) = [hi, lo] := by
  unfold be16 num16 byte
  congr 1
  · bv_omega
  · congr 1
    bv_omega

theorem burstWindow_iff (n : Nat) (h : n < 65536) (x : BitVec 16) :
    BitVec.ofNat 16 n = x ↔ x.toNat = n := by
  bv_omega

/-! ## The argument of GROUP-SET -/

/-- Every field of the argument lies in its range (R43, check 3). -/
def Window.groupInRange (w : Window) : Prop :=
  (w.argAt 1).toNat ≤ 1 ∧ (w.argAt 2).toNat ≤ 1 ∧ (w.argAt 3).toNat ≤ 2 ∧ (w.argAt 4).toNat ≤ 1
    ∧ (w.argAt 5 = 1 ∨ w.argAt 5 = 2) ∧ (w.argAt 6).toNat ≤ 1 ∧ (w.argAt 7).toNat ≤ 1
    ∧ (w.argAt 8).toNat ≤ 15 ∧ w.argAt 9 ≠ 1 ∧ 10 ≤ num16 (w.argAt 10) (w.argAt 11)
    ∧ num16 (w.argAt 10) (w.argAt 11) ≤ 60000 ∧ (w.argAt 12).toNat ≤ 1

/-- The argument spells the record, field by field (R198), and the record is one that a group may
hold (R30). -/
structure Window.Spells (w : Window) (r : GroupRecord) : Prop where
  enabled : w.argAt 1 = bit r.enabled
  domain : w.argAt 2 = r.domain.code
  logged : w.argAt 3 = r.logged.code
  configurable : w.argAt 4 = bit r.configurable
  configured : w.argAt 5 = r.configured.code ∧ r.configured ≠ .notice
  runDemoted : w.argAt 6 = bit r.runDemoted
  latching : w.argAt 7 = bit r.latching
  summaryBit : w.argAt 8 = r.summaryBit.setWidth 8
  burstThreshold : w.argAt 9 = r.burstThreshold
  threshold_range : w.argAt 9 ≠ 1
  burstWindow : r.burstWindow.toNat = num16 (w.argAt 10) (w.argAt 11)
  window_range : 10 ≤ num16 (w.argAt 10) (w.argAt 11) ∧ num16 (w.argAt 10) (w.argAt 11) ≤ 60000
  momentary : w.argAt 12 = bit r.momentary

/-- The part reads a record from the argument exactly where the argument spells it. -/
theorem groupArgument_eq_some (w : Window) (r : GroupRecord) :
    w.groupArgument = some r ↔ w.Spells r := by
  unfold Window.groupArgument
  simp only [Option.bind_eq_bind, Option.bind_eq_some_iff, Option.ite_none_right_eq_some,
    Option.some.injEq, boolOfByte_eq_some, Domain.ofByte_eq_some, Action.ofByte_eq_some,
    Action.configuredOfByte_eq_some, Bool.and_eq_true, decide_eq_true_eq, bne_iff_ne]
  constructor
  · rintro ⟨enabled, h1, domain, h2, logged, h3, configurable, h4, configured, h5, runDemoted, h6,
      latching, h7, momentary, h12, ⟨⟨⟨bits, threshold⟩, low⟩, high⟩, rfl⟩
    exact ⟨h1, h2, h3, h4, h5, h6, h7, (summaryBit_iff _ _).mp ⟨bits, rfl⟩, rfl, threshold,
      (burstWindow_iff _ (num16_lt _ _) _).mp rfl, ⟨low, high⟩, h12⟩
  · intro h
    obtain ⟨bits, summaryBit⟩ := (summaryBit_iff _ _).mpr h.summaryBit
    refine ⟨_, h.enabled, _, h.domain, _, h.logged, _, h.configurable, _, h.configured, _,
      h.runDemoted, _, h.latching, _, h.momentary,
      ⟨⟨⟨bits, h.threshold_range⟩, h.window_range.1⟩, h.window_range.2⟩, ?_⟩
    rw [summaryBit, h.burstThreshold, (burstWindow_iff _ (num16_lt _ _) _).mpr h.burstWindow]

theorem groupInRange_iff (w : Window) : w.groupInRange ↔ ∃ r, w.groupArgument = some r := by
  simp only [groupArgument_eq_some]
  constructor
  · rintro ⟨h1, h2, h3, h4, h5, h6, h7, h8, h9, low, high, h12⟩
    obtain ⟨enabled, h1⟩ := (exists_bit_iff _).mpr h1
    obtain ⟨domain, h2⟩ := (exists_domainCode_iff _).mpr h2
    obtain ⟨logged, h3⟩ := (exists_actionCode_iff _).mpr h3
    obtain ⟨configurable, h4⟩ := (exists_bit_iff _).mpr h4
    obtain ⟨configured, h5⟩ := (exists_configuredCode_iff _).mpr h5
    obtain ⟨runDemoted, h6⟩ := (exists_bit_iff _).mpr h6
    obtain ⟨latching, h7⟩ := (exists_bit_iff _).mpr h7
    obtain ⟨momentary, h12⟩ := (exists_bit_iff _).mpr h12
    exact ⟨⟨enabled, domain, logged, configurable, configured, runDemoted, latching,
      (w.argAt 8).setWidth 4, w.argAt 9, BitVec.ofNat 16 (num16 (w.argAt 10) (w.argAt 11)),
      momentary⟩, h1, h2, h3, h4, h5, h6, h7, (summaryBit_iff _ _).mp ⟨h8, rfl⟩, rfl, h9,
      (burstWindow_iff _ (num16_lt _ _) _).mp rfl, ⟨low, high⟩, h12⟩
  · rintro ⟨r, h⟩
    exact ⟨(exists_bit_iff _).mp ⟨_, h.enabled⟩, (exists_domainCode_iff _).mp ⟨_, h.domain⟩,
      (exists_actionCode_iff _).mp ⟨_, h.logged⟩, (exists_bit_iff _).mp ⟨_, h.configurable⟩,
      (exists_configuredCode_iff _).mp ⟨_, h.configured⟩, (exists_bit_iff _).mp ⟨_, h.runDemoted⟩,
      (exists_bit_iff _).mp ⟨_, h.latching⟩, ((summaryBit_iff _ _).mpr h.summaryBit).1,
      h.threshold_range, h.window_range.1, h.window_range.2,
      (exists_bit_iff _).mp ⟨_, h.momentary⟩⟩

theorem groupArgument_none (w : Window) (h : ¬ w.groupInRange) : w.groupArgument = none :=
  Option.eq_none_iff_forall_ne_some.mpr fun r hr => h ((groupInRange_iff w).mpr ⟨r, hr⟩)

/-- A record that the argument spells has the argument's bytes (R198, R199). -/
theorem Window.Spells.bytes {w : Window} {r : GroupRecord} (h : w.Spells r) (g : Byte) :
    r.bytes g = [g, w.argAt 1, w.argAt 2, w.argAt 3, w.argAt 4, w.argAt 5, w.argAt 6, w.argAt 7,
      w.argAt 8, w.argAt 9, w.argAt 10, w.argAt 11, w.argAt 12] := by
  unfold GroupRecord.bytes
  rw [h.burstWindow, be16_num16, ← h.enabled, ← h.domain, ← h.logged, ← h.configurable,
    ← h.configured.1, ← h.runDemoted, ← h.latching, ← h.summaryBit, ← h.burstThreshold,
    ← h.momentary]
  rfl

/-! ## The checks of GROUP-SET -/

theorem groupNumberOk_iff (g : Byte) : groupNumberOk g = true ↔ 1 ≤ g.toNat ∧ g.toNat ≤ 31 := by
  unfold groupNumberOk
  simp only [Bool.and_eq_true, decide_eq_true_eq]

theorem groupNumberOk_false (g : Byte) (h : g = 0 ∨ 31 < g.toNat) : groupNumberOk g = false := by
  refine Bool.eq_false_iff.mpr fun number => ?_
  obtain ⟨low, high⟩ := (groupNumberOk_iff g).mp number
  bv_omega

/-- What check 4 of R43 asks of a record. -/
theorem fixedFieldsAgree_iff (g : Byte) (held new : GroupRecord) :
    fixedFieldsAgree g held new = true ↔ 8 < g.toNat ∨ (new.enabled = held.enabled
      ∧ new.domain = held.domain ∧ new.logged = held.logged
      ∧ new.configurable = held.configurable ∧ new.latching = held.latching
      ∧ new.momentary = held.momentary
      ∧ (g ≠ 7 → new.burstThreshold = held.burstThreshold ∧ new.burstWindow = held.burstWindow)
      ∧ (held.configurable = false → new.configured = held.configured)) := by
  unfold fixedFieldsAgree
  simp only [Bool.or_eq_true, Bool.and_eq_true, beq_iff_eq, decide_eq_true_eq, and_assoc,
    or_iff_not_imp_left (a := g = 7), or_iff_not_imp_left (a := held.configurable = true),
    Bool.not_eq_true, ne_eq]

theorem groupResponse_inside {g : Byte} (h : groupNumberOk g = true) (r : GroupRecord) :
    groupResponse g r = r.bytes g := if_pos h

theorem groupResponse_outside {g : Byte} (h : groupNumberOk g = false) (r : GroupRecord) :
    groupResponse g r = [] := if_neg (Bool.eq_false_iff.mp h)

/-! ## The answer of GROUP-SET -/

/-- A command of no Table Engine request completes in the state that took it (R192, R195). -/
theorem complete_taken (s : State) (code result : Byte) (response : List Byte) :
    complete result response (s.taken code) = s.completed code result response := rfl

theorem exec_groupSet (s : State) (h : s.takes) :
    exec .groupSet s = .next (workGroupSet (s.taken 0x22)) :=
  congrArg Host.Outcome.next (giveCommand_takes 0x22 workGroupSet s h)

section
variable {u : State} {g : Byte} {held : GroupRecord} (hg : u.window.argAt 0 = g)
  (hheld : groupOf u.groups g = held)
include hg

theorem workGroupSet_number (mode : u.release.mode = .hold) (number : groupNumberOk g = false) :
    workGroupSet u = complete Result.badArgument [] u := by
  unfold workGroupSet
  simp only [hg, mode, number, ne_eq, not_true_eq_false, if_false, Bool.not_false, if_true]

include hheld

theorem workGroupSet_run (mode : u.release.mode = .run) :
    workGroupSet u = complete Result.wrongMode (groupResponse g held) u := by
  subst hg hheld
  unfold workGroupSet
  exact if_pos (by rw [mode]; exact Mode.noConfusion)

theorem workGroupSet_range (mode : u.release.mode = .hold) (number : groupNumberOk g = true)
    (range : u.window.groupArgument = none) :
    workGroupSet u = complete Result.badArgument (held.bytes g) u := by
  unfold workGroupSet
  simp only [hg, hheld, mode, number, range, ne_eq, not_true_eq_false, if_false, Bool.not_true,
    Bool.false_eq_true]

/-- With a number and fields in range, the fixed fields decide (R43, check 4). -/
theorem workGroupSet_given (mode : u.release.mode = .hold) (number : groupNumberOk g = true)
    {new : GroupRecord} (argument : u.window.groupArgument = some new) :
    workGroupSet u = if fixedFieldsAgree g held new then
        complete Result.ok (new.bytes g)
          { u with groups := u.groups.setIfInBounds (g.toNat - 1) new }
      else complete Result.badArgument (held.bytes g) u := by
  unfold workGroupSet
  simp only [hg, hheld, mode, number, argument, ne_eq, not_true_eq_false, if_false,
    Bool.not_true, Bool.false_eq_true]

end

/-- Settles O16, by the checks of R43 in their order. -/
theorem groupSetAnswers : Obligations.GroupSetAnswers := by
  unfold Obligations.GroupSetAnswers
  rintro s g a window held takes rfl hg rfl hheld
  have arg0 : (s.taken 0x22).window.argAt 0 = g := hg.symm
  have read : groupOf (s.taken 0x22).groups g = held := hheld.symm
  rw [exec_groupSet s takes]
  refine ⟨fun within run => ?_, fun outside => ?_, fun low high hold ranges hranges => ?_⟩
  · rw [workGroupSet_run arg0 read run, groupResponse_inside ((groupNumberOk_iff g).mpr within),
      complete_taken]
    rfl
  · have number := groupNumberOk_false g outside
    cases mode : s.release.mode with
    | run =>
      rw [workGroupSet_run arg0 read mode, groupResponse_outside number, complete_taken]
      rfl
    | hold =>
      rw [workGroupSet_number arg0 mode number, complete_taken]
      rfl
  · have number := (groupNumberOk_iff g).mpr ⟨low, high⟩
    have inRange : ranges ↔ (s.taken 0x22).window.groupInRange := hranges
    refine ⟨fun out => ?_, fun within => ?_⟩
    · rw [workGroupSet_range arg0 read hold number (groupArgument_none _ (mt inRange.mpr out)),
        complete_taken]
      rfl
    · obtain ⟨new, argument⟩ := (groupInRange_iff _).mp (inRange.mp within)
      have spells := (groupArgument_eq_some _ new).mp argument
      refine ⟨new, spells.bytes g, spells.burstWindow, fun fixed hfixed => ?_⟩
      rw [← fixedFieldsAgree_iff] at hfixed
      rw [workGroupSet_given arg0 read hold number argument]
      refine ⟨fun differs => ?_, fun agree => ?_⟩
      · rw [if_neg (mt hfixed.mpr differs), complete_taken]
        rfl
      · rw [if_pos (hfixed.mp agree)]
        exact ⟨_, rfl, rfl, fun h low _ => groupOf_set s.groups g h new number low⟩

end Sys2Proof.Machine

/-!
The laws of the report link (R58, R104, R105, R109, R111, R112), one lemma for each operation of the
Link Controller: what an operation keeps of the queue beside the roster, and of the line.
-/

namespace Sys2Proof.Machine

/-! ## The laws of the link, of the Link Controller's own state -/

/-- The agent with an address is in the roster and not pending (R112). -/
def Link.Free (l : Link) (a : Byte) : Prop := ∃ y ∈ l.roster, y.address = a ∧ y.waiting = false

/-- The agents that have an entry in the queue (R111). -/
def Link.owners (l : Link) : List Byte := l.queue.map LinkEntry.owner

/-- The roster's order and the queue beside its pending flags (R109, R111). -/
structure Link.Queued (l : Link) : Prop where
  ascending : l.roster.Pairwise fun x y => x.address.toNat < y.address.toNat
  reports : l.queue.countP LinkEntry.isReport ≤ 1
  distinct : l.owners.Nodup
  pending : ∀ x ∈ l.roster, x.waiting = true ↔ x.address ∈ l.owners
  known : ∀ a ∈ l.owners, ∃ x ∈ l.roster, x.address = a

/-- The agent come to is not pending (R112). -/
def Link.CallsFree (l : Link) : Prop :=
  l.phase = .calling → ∃ a, l.position = some a ∧ l.Free a

/-- A running exchange is the live one of the agent come to (R112). -/
def Link.PollsLive (l : Link) : Prop :=
  l.phase = .polling → ∃ x, l.exchange = some x ∧ x.fate = .live ∧ l.position = some x.agent

/-- A live exchange stands in its own round, before a round due after it, or with polling stopped
(R112, R124). -/
def RoundPhase.holdsLive (p : RoundPhase) : Prop := p = .polling ∨ p = .dueAfter ∨ p = .stopped

/-- What stands on the line in each phase of the round (R104, R105, R112). -/
structure Link.Lined (l : Link) : Prop where
  calling : l.CallsFree
  polling : l.PollsLive
  sending : l.line = .sending → ∃ x, l.exchange = some x ∧ x.judged = false
  free : ∀ x, l.exchange = some x → x.fate = .live → x.judged = false → l.Free x.agent
  live : ∀ x, l.exchange = some x → x.fate = .live → l.phase.holdsLive
  judged : ∀ x, l.exchange = some x → x.judged = true → l.line = .busy

/-- The laws of the link speak of the Link Controller's state and of the addresses held (R58). -/
theorem linkLaw_iff (s : State) : LinkLaw s ↔ s.link.Queued ∧ s.link.Lined
    ∧ (heldAddresses (s.topo.staged.map (·.agent))).Nodup
    ∧ (heldAddresses (s.topo.locs.map (·.agent))).Nodup := by
  constructor
  · rintro ⟨⟨ascending, reports, distinct, pending, known, staged, locs⟩,
      calling, polling, sending, exchange⟩
    exact ⟨⟨ascending, reports, distinct, pending, known⟩,
      ⟨calling, polling, sending, fun x hx => (exchange x hx).1, fun x hx => (exchange x hx).2.1,
        fun x hx => (exchange x hx).2.2⟩, staged, locs⟩
  · rintro ⟨queued, lined, staged, locs⟩
    exact ⟨⟨queued.ascending, queued.reports, queued.distinct, queued.pending, queued.known,
      staged, locs⟩, lined.calling, lined.polling, lined.sending,
      fun x hx => ⟨lined.free x hx, lined.live x hx, lined.judged x hx⟩⟩

/-- The table, the map and the staging area are the same. -/
structure SameMap (s t : State) : Prop where
  slots : t.engine.slots = s.engine.slots
  locs : t.topo.locs = s.topo.locs
  staged : t.topo.staged = s.topo.staged

theorem SameMap.refl (s : State) : SameMap s s := by constructor <;> rfl

theorem SameMap.trans {s u t : State} (h : SameMap s u) (h' : SameMap u t) : SameMap s t :=
  ⟨h'.slots.trans h.slots, h'.locs.trans h.locs, h'.staged.trans h.staged⟩

/-- A step of the report link: it leaves the table and the map, and keeps the law of the link. -/
structure LinkShift (s t : State) : Prop where
  map : SameMap s t
  law : LinkLaw s → LinkLaw t

theorem LinkShift.of_link {s t : State} (map : SameMap s t)
    (link : s.link.Queued → s.link.Lined → t.link.Queued ∧ t.link.Lined) : LinkShift s t := by
  refine ⟨map, fun h => ?_⟩
  obtain ⟨queued, lined, staged, locs⟩ := (linkLaw_iff s).mp h
  obtain ⟨queued', lined'⟩ := link queued lined
  exact (linkLaw_iff t).mpr ⟨queued', lined', map.staged ▸ staged, map.locs ▸ locs⟩

/-- A step that leaves the Link Controller leaves its law. -/
theorem LinkShift.of_same {s t : State} (map : SameMap s t) (link : t.link = s.link) :
    LinkShift s t :=
  .of_link map fun queued lined => by rw [link]; exact ⟨queued, lined⟩

/-! ## Records of the roster changed -/

theorem findAgent_some {roster : List Agent} {a : Byte} {x : Agent}
    (h : findAgent roster a = some x) : x ∈ roster ∧ x.address = a :=
  ⟨List.mem_of_find?_eq_some h, by simpa using List.find?_some h⟩

/-- A change of a record that leaves its address and its pending flag. -/
def Agent.Beside (f : Agent → Agent) : Prop :=
  ∀ x, (f x).address = x.address ∧ (f x).waiting = x.waiting

/-- A roster mapped by a change that keeps the addresses keeps its order (R109). -/
theorem ascending_map {roster : List Agent} (f : Agent → Agent)
    (hf : ∀ x, (f x).address = x.address)
    (h : roster.Pairwise fun x y => x.address.toNat < y.address.toNat) :
    (roster.map f).Pairwise fun x y => x.address.toNat < y.address.toNat := by
  rw [List.pairwise_map]
  simpa only [hf] using h

theorem Agent.Beside.only {f : Agent → Agent} (hf : Agent.Beside f) (a : Byte) :
    Agent.Beside fun x => if x.address == a then f x else x := by
  intro x
  dsimp only
  split
  · exact hf x
  · exact ⟨rfl, rfl⟩

theorem Link.Queued.map {l : Link} (h : l.Queued) {f : Agent → Agent} (hf : Agent.Beside f) :
    Link.Queued { l with roster := l.roster.map f } where
  ascending := ascending_map f (fun x => (hf x).1) h.ascending
  reports := h.reports
  distinct := h.distinct
  pending := by
    rintro _ mem
    obtain ⟨x, hx, rfl⟩ := List.mem_map.mp mem
    rw [(hf x).1, (hf x).2]
    exact h.pending x hx
  known := by
    intro a ha
    obtain ⟨x, hx, rfl⟩ := h.known a ha
    exact ⟨f x, List.mem_map_of_mem hx, (hf x).1⟩

/-- An agent that is not pending stays so where a change raises no pending flag. -/
theorem Link.Free.map {l l' : Link} {a : Byte} (h : l.Free a) {f : Agent → Agent}
    (roster : l'.roster = l.roster.map f)
    (hf : ∀ x, (f x).address = x.address ∧ (x.waiting = false → (f x).waiting = false)) :
    l'.Free a := by
  obtain ⟨y, hy, rfl, idle⟩ := h
  exact ⟨f y, roster ▸ List.mem_map_of_mem hy, (hf y).1, (hf y).2 idle⟩

/-- The line's law stays where no agent becomes pending. -/
theorem Link.Lined.roster {l l' : Link} (h : l.Lined) (free : ∀ a, l.Free a → l'.Free a)
    (phase : l'.phase = l.phase) (position : l'.position = l.position)
    (exchange : l'.exchange = l.exchange) (line : l'.line = l.line) : l'.Lined where
  calling := by
    intro hp
    obtain ⟨a, ha, hfree⟩ := h.calling (phase ▸ hp)
    exact ⟨a, position ▸ ha, free a hfree⟩
  polling := by
    unfold Link.PollsLive
    rw [phase, exchange, position]
    exact h.polling
  sending := by
    rw [line, exchange]
    exact h.sending
  free := by
    rw [exchange]
    exact fun x hx live judged => free _ (h.free x hx live judged)
  live := by
    rw [exchange, phase]
    exact h.live
  judged := by
    rw [exchange, line]
    exact h.judged

/-! ## The queue -/

/-- The record of an address with its pending flag set to b (R111). -/
def Agent.setWaiting (a : Byte) (b : Bool) (x : Agent) : Agent :=
  if x.address == a then { x with waiting := b } else x

theorem Agent.setWaiting_address (a : Byte) (b : Bool) (x : Agent) :
    (x.setWaiting a b).address = x.address := by
  unfold Agent.setWaiting
  split <;> rfl

theorem Agent.setWaiting_waiting (a : Byte) (b : Bool) (x : Agent) :
    (x.setWaiting a b).waiting = if x.address = a then b else x.waiting := by
  unfold Agent.setWaiting
  simp only [beq_iff_eq]
  split <;> rfl

theorem enqueue_link (a : Byte) (e : LinkEntry) (s : State) : (enqueue a e s).link
    = { s.link with
        queue := s.link.queue ++ [e], roster := s.link.roster.map (Agent.setWaiting a true) } := rfl

theorem dequeue_link (a : Byte) (s : State) : (dequeue a s).link
    = { s.link with
        queue := s.link.queue.tail, roster := s.link.roster.map (Agent.setWaiting a false) } := rfl

/-- An agent that is not pending has no entry in the queue (R111). -/
theorem Link.Queued.not_owner {l : Link} (h : l.Queued) {a : Byte} (free : l.Free a) :
    a ∉ l.owners := by
  obtain ⟨y, hy, rfl, idle⟩ := free
  rw [← h.pending y hy, idle]
  exact Bool.false_ne_true

/-- An entry of an agent that is not pending joins the tail (R111). -/
theorem enqueue_queued {s : State} {a : Byte} {e : LinkEntry} (h : s.link.Queued)
    (owner : e.owner = a) (free : s.link.Free a)
    (report : e.isReport = true → s.link.queue.any LinkEntry.isReport = false) :
    (enqueue a e s).link.Queued := by
  have absent := h.not_owner free
  have owners : (enqueue a e s).link.owners = s.link.owners ++ [a] := by
    rw [enqueue_link, ← owner]
    exact List.map_append
  obtain ⟨y, hy, hya, _⟩ := free
  refine ⟨ascending_map _ (Agent.setWaiting_address a true) h.ascending, ?_, ?_, ?_, ?_⟩
  · show (s.link.queue ++ [e]).countP LinkEntry.isReport ≤ 1
    rw [List.countP_append, List.countP_singleton]
    split
    · next hr =>
      have none : s.link.queue.countP LinkEntry.isReport = 0 :=
        List.countP_eq_zero.mpr fun x hx => by simpa using List.any_eq_false.mp (report hr) x hx
      omega
    · exact h.reports
  · rw [owners]
    exact List.nodup_append.mpr ⟨h.distinct, List.nodup_singleton a, fun b hb c hc hbc =>
      absent (List.mem_singleton.mp hc ▸ hbc ▸ hb)⟩
  · rw [owners]
    intro _ mem
    obtain ⟨x, hx, rfl⟩ := List.mem_map.mp (enqueue_link a e s ▸ mem)
    rw [Agent.setWaiting_address, Agent.setWaiting_waiting, List.mem_append, List.mem_singleton]
    split
    · next same => exact ⟨fun _ => .inr same, fun _ => rfl⟩
    · next other => exact (h.pending x hx).trans ⟨.inl, fun h => h.resolve_right other⟩
  · rw [owners]
    intro b hb
    rcases List.mem_append.mp hb with hb | hb
    · obtain ⟨x, hx, hxb⟩ := h.known b hb
      exact ⟨_, List.mem_map_of_mem hx, (Agent.setWaiting_address _ _ x).trans hxb⟩
    · exact ⟨_, List.mem_map_of_mem hy,
        (Agent.setWaiting_address _ _ y).trans (hya.trans (List.mem_singleton.mp hb).symm)⟩

/-- The head of the queue answered leaves it, and its agent is pending no longer (R111). -/
theorem dequeue_queued {s : State} {a : Byte} {e : LinkEntry} {rest : List LinkEntry}
    (h : s.link.Queued) (head : s.link.queue = e :: rest) (owner : e.owner = a) :
    (dequeue a s).link.Queued := by
  have owners : s.link.owners = a :: (dequeue a s).link.owners := by
    rw [dequeue_link]
    unfold Link.owners
    rw [head, ← owner]
    rfl
  have distinct := List.nodup_cons.mp (owners ▸ h.distinct)
  refine ⟨ascending_map _ (Agent.setWaiting_address a false) h.ascending, ?_, distinct.2, ?_, ?_⟩
  · refine le_trans ?_ h.reports
    exact (List.tail_sublist s.link.queue).countP_le
  · intro _ mem
    obtain ⟨x, hx, rfl⟩ := List.mem_map.mp (dequeue_link a s ▸ mem)
    rw [Agent.setWaiting_address, Agent.setWaiting_waiting]
    split
    · next same => exact
        ⟨fun h => absurd h Bool.false_ne_true, fun h => absurd (same ▸ h) distinct.1⟩
    · next other =>
      rw [h.pending x hx, owners, List.mem_cons]
      exact ⟨fun h => h.resolve_left other, .inr⟩
  · intro b hb
    obtain ⟨x, hx, hxb⟩ := h.known b (owners ▸ List.mem_cons_of_mem a hb)
    exact ⟨_, List.mem_map_of_mem hx, (Agent.setWaiting_address _ _ x).trans hxb⟩

theorem dequeue_lined {s : State} (a : Byte) (h : s.link.Lined) : (dequeue a s).link.Lined :=
  h.roster (fun _ free => free.map (dequeue_link a s ▸ rfl) fun x =>
    ⟨Agent.setWaiting_address a false x, fun idle => by
      rw [Agent.setWaiting_waiting, idle, ite_self]⟩) rfl rfl rfl rfl

/-! ## The record of one agent changed beside the queue -/

theorem withAgent_link (a : Byte) (f : Agent → Agent) (s : State) : (withAgent a f s).link
    = { s.link with roster := s.link.roster.map fun x => if x.address == a then f x else x } := rfl

theorem withAgent_queued {s : State} (a : Byte) {f : Agent → Agent} (hf : Agent.Beside f)
    (h : s.link.Queued) : (withAgent a f s).link.Queued := h.map (hf.only a)

theorem withAgent_free {s : State} (a : Byte) {f : Agent → Agent} (hf : Agent.Beside f) (b : Byte)
    (h : s.link.Free b) : (withAgent a f s).link.Free b :=
  h.map (withAgent_link a f s ▸ rfl) fun x =>
    ⟨(hf.only a x).1, fun idle => ((hf.only a x).2).trans idle⟩

theorem withAgent_lined {s : State} (a : Byte) {f : Agent → Agent} (hf : Agent.Beside f)
    (h : s.link.Lined) : (withAgent a f s).link.Lined :=
  h.roster (withAgent_free a hf) rfl rfl rfl rfl

theorem Agent.beside_stored (v : Byte × Verdict) : Agent.Beside fun x => { x with stored := v } :=
  fun _ => ⟨rfl, rfl⟩

theorem Agent.beside_miss : Agent.Beside Agent.miss := fun _ => ⟨rfl, rfl⟩

theorem Agent.beside_heard : Agent.Beside Agent.heard := fun _ => ⟨rfl, rfl⟩

theorem Agent.beside_quiet : Agent.Beside Agent.quiet := fun _ => ⟨rfl, rfl⟩

/-! ## A reply judged -/

theorem withAgent_map (a : Byte) (f : Agent → Agent) (s : State) : SameMap s (withAgent a f s) := by
  constructor <;> rfl

theorem enqueue_map (a : Byte) (e : LinkEntry) (s : State) : SameMap s (enqueue a e s) := by
  constructor <;> rfl

theorem miss_map (a : Byte) (code : Option Byte) (s : State) : SameMap s (miss a code s) := by
  unfold miss
  split
  · exact .refl s
  · dsimp only
    split <;> split <;> constructor <;> rfl

theorem newReport_map (r : Report) (s : State) : SameMap s (newReport r s) := by
  unfold newReport
  split
  · exact withAgent_map _ _ s
  · split
    · exact withAgent_map _ _ s
    · exact (withAgent_map _ _ s).trans (enqueue_map _ _ _)

theorem judgedReport_map (r : Report) (s : State) : SameMap s (judgedReport r s) := by
  unfold judgedReport
  split
  · exact .refl s
  · dsimp only
    split
    · exact withAgent_map _ _ s
    · exact (withAgent_map _ _ s).trans (newReport_map r _)

theorem judgedBusy_map (j : Judged) (s : State) : SameMap s (judgedBusy j s) := by
  unfold judgedBusy
  split
  · exact .refl s
  · exact .refl s
  · split
    · exact .refl s
    · split
      · exact withAgent_map _ _ s
      · exact .refl s

theorem judgedReply_map (x : Exchange) (j : Judged) (s : State) :
    SameMap s (judgedReply x j s) := by
  unfold judgedReply judgedLive
  split
  · split
    · exact miss_map _ _ s
    · exact withAgent_map _ _ s
    · exact judgedReport_map _ s
  · exact judgedBusy_map j s
  · exact .refl s

/-- What a judged or a missing reply leaves of the link, before its exchange ends or holds the line:
the queue's law, the round where it stood, and the agent come to (R112, R115 to R121). -/
structure Link.Replied (l l' : Link) : Prop where
  queued : l'.Queued
  phase : l'.phase = l.phase
  position : l'.position = l.position
  calling : l'.CallsFree

/-- A reply that counts is heard in a phase in which no agent is come to (R112). -/
theorem Link.Lined.not_calling {l : Link} (h : l.Lined) {x : Exchange} (hx : l.exchange = some x)
    (live : x.fate = .live) : l.phase ≠ .calling := by
  rcases h.live x hx live with hp | hp | hp <;> rw [hp] <;> exact RoundPhase.noConfusion

theorem Link.Replied.of_not_calling {l l' : Link} (queued : l'.Queued)
    (phase : l'.phase = l.phase) (position : l'.position = l.position) (h : l.phase ≠ .calling) :
    Link.Replied l l' :=
  ⟨queued, phase, position, fun hp => absurd (phase ▸ hp) h⟩

section
variable {s : State} (queued : s.link.Queued) (away : s.link.phase ≠ .calling)
include queued away

/-- A miss of an agent that is not pending (R119 to R121). -/
theorem miss_replied {a : Byte} (code : Option Byte) (free : s.link.Free a) :
    Link.Replied s.link (miss a code s).link := by
  unfold miss
  cases findAgent s.link.roster a with
  | none => exact .of_not_calling queued rfl rfl away
  | some x =>
    have missed : (if x.lapses then setCause (withAgent a Agent.miss s) Cause.lapse
        else withAgent a Agent.miss s).link = (withAgent a Agent.miss s).link := by
      split <;> rfl
    dsimp only
    generalize (if x.lapses then setCause (withAgent a Agent.miss s) Cause.lapse
        else withAgent a Agent.miss s) = u at missed
    have recorded : u.link.Queued := missed ▸ withAgent_queued a Agent.beside_miss queued
    have phase : u.link.phase = s.link.phase := by rw [missed]; rfl
    have position : u.link.position = s.link.position := by rw [missed]; rfl
    split
    · exact .of_not_calling (enqueue_queued recorded rfl
        (missed ▸ withAgent_free a Agent.beside_miss a free) fun hr => absurd hr Bool.false_ne_true)
        phase position away
    · exact .of_not_calling recorded phase position away

/-- A new report is stored, or joins the queue that holds none (R116). -/
theorem newReport_replied (r : Report) (free : s.link.Free r.agent) :
    Link.Replied s.link (newReport r s).link := by
  have stored := fun v => withAgent_queued r.agent (Agent.beside_stored v) queued
  unfold newReport
  split
  · exact .of_not_calling (stored _) rfl rfl away
  · split
    · exact .of_not_calling (stored _) rfl rfl away
    · next none =>
      have beside : Agent.Beside fun x => { x with lastSeq := r.seq, stored := (0, .none) } :=
        fun _ => ⟨rfl, rfl⟩
      exact .of_not_calling (enqueue_queued (withAgent_queued _ beside queued) rfl
        (withAgent_free _ beside _ free) fun _ => Bool.eq_false_iff.mpr none) rfl rfl away

theorem judgedReport_replied (r : Report) (free : s.link.Free r.agent) :
    Link.Replied s.link (judgedReport r s).link := by
  unfold judgedReport
  split
  · exact .of_not_calling queued rfl rfl away
  · have heard := withAgent_queued r.agent Agent.beside_heard queued
    dsimp only
    split
    · exact .of_not_calling heard rfl rfl away
    · have new := newReport_replied heard away r (withAgent_free _ Agent.beside_heard _ free)
      exact .of_not_calling new.queued new.phase new.position away

/-- The judgement of a live exchange's reply (R115 to R121). -/
theorem judgedLive_replied {a : Byte} (j : Judged) (agent : ∀ r, j = .report r → r.agent = a)
    (free : s.link.Free a) : Link.Replied s.link (judgedLive a j s).link := by
  cases j with
  | bad code => exact miss_replied queued away _ free
  | quiet =>
    exact .of_not_calling (withAgent_queued a Agent.beside_quiet queued) rfl rfl away
  | report r => exact judgedReport_replied queued away r (agent r rfl ▸ free)

end

/-- The judgement of a reply that a commit has overtaken (R123). -/
theorem judgedBusy_replied {s : State} (j : Judged) (queued : s.link.Queued)
    (calling : s.link.CallsFree) : Link.Replied s.link (judgedBusy j s).link := by
  have unchanged : Link.Replied s.link s.link := ⟨queued, rfl, rfl, calling⟩
  cases j with
  | bad code => exact unchanged
  | quiet => exact unchanged
  | report r =>
    unfold judgedBusy
    dsimp only
    split
    · exact unchanged
    · split
      · refine ⟨withAgent_queued _ (Agent.beside_stored _) queued, rfl, rfl, fun hp => ?_⟩
        obtain ⟨a, ha, free⟩ := calling hp
        exact ⟨a, ha, withAgent_free _ (Agent.beside_stored _) _ free⟩
      · exact unchanged

/-- A REPORT that is judged is of the polled agent (R114). -/
theorem judgeFrame_agent (a : Byte) (stop : Bool) (bytes : List Byte) (r : Report)
    (h : judgeFrame a stop bytes = .report r) : r.agent = a := by
  unfold judgeFrame at h
  repeat' split at h
  all_goals cases h
  rfl

theorem judgedReply_replied {s : State} {x : Exchange} (j : Judged)
    (agent : ∀ r, j = .report r → r.agent = x.agent) (hx : s.link.exchange = some x)
    (unjudged : x.judged = false) (queued : s.link.Queued) (lined : s.link.Lined) :
    Link.Replied s.link (judgedReply x j s).link := by
  unfold judgedReply
  cases fate : x.fate with
  | live =>
    exact judgedLive_replied queued (lined.not_calling hx fate) j agent
      (lined.free x hx fate unjudged)
  | busyOnly => exact judgedBusy_replied j queued lined.calling
  | dropped => exact ⟨queued, rfl, rfl, lined.calling⟩

/-! ## The end of an exchange -/

theorem Link.Queued.round {l l' : Link} (h : l.Queued) (roster : l'.roster = l.roster)
    (queue : l'.queue = l.queue) : l'.Queued := by
  have owners : l'.owners = l.owners := by unfold Link.owners; rw [queue]
  exact ⟨roster ▸ h.ascending, queue ▸ h.reports, owners ▸ h.distinct,
    by rw [roster, owners]; exact h.pending, by rw [roster, owners]; exact h.known⟩

/-- Coming to the next agent while no reply of a live exchange is awaited (R112). -/
theorem comeToNext_lined {s : State}
    (sending : s.link.line = .sending → ∃ x, s.link.exchange = some x ∧ x.judged = false)
    (stale : ∀ x, s.link.exchange = some x → x.fate ≠ .live)
    (judged : ∀ x, s.link.exchange = some x → x.judged = true → s.link.line = .busy) :
    (comeToNext s).link.Lined := by
  cases hn : (agentsLeft s.link).find? fun y => !y.waiting with
  | none =>
    rw [comeToNext_over s fun y hy => by simpa using List.find?_eq_none.mp hn y hy]
    exact ⟨fun hp => RoundPhase.noConfusion hp, fun hp => RoundPhase.noConfusion hp, sending,
      fun x hx live => absurd live (stale x hx), fun x hx live => absurd live (stale x hx), judged⟩
  | some y =>
    have left : y ∈ s.link.roster := by
      have mem := List.mem_of_find?_eq_some hn
      unfold agentsLeft at mem
      split at mem
      · exact mem
      · exact List.mem_of_mem_filter mem
    have idle : y.waiting = false := by simpa using List.find?_some hn
    rw [comeToNext_to s y hn]
    exact ⟨fun _ => ⟨y.address, rfl, y, left, rfl, idle⟩, fun hp => RoundPhase.noConfusion hp,
      sending, fun x hx live => absurd live (stale x hx), fun x hx live => absurd live (stale x hx),
      judged⟩

theorem comeToNext_map (s : State) : SameMap s (comeToNext s) := by
  obtain ⟨phase, position, h⟩ := comeToNext_changes s
  rw [h]
  constructor <;> rfl

theorem comeToNext_queued {s : State} (h : s.link.Queued) : (comeToNext s).link.Queued := by
  obtain ⟨phase, position, hc⟩ := comeToNext_changes s
  rw [hc]
  exact h.round rfl rfl

theorem endExchange_map (s : State) : SameMap s (endExchange s) := by
  obtain ⟨phase, position, h⟩ := endExchange_changes s
  rw [h]
  constructor <;> rfl

theorem endExchange_queued {s : State} (h : s.link.Queued) : (endExchange s).link.Queued := by
  obtain ⟨phase, position, hc⟩ := endExchange_changes s
  rw [hc]
  exact h.round rfl rfl

/-- The laws of the line with no exchange on it (R105). -/
theorem Link.Lined.of_free {l : Link} (calling : l.CallsFree) (polling : l.phase ≠ .polling)
    (exchange : l.exchange = none) (line : l.line ≠ .sending) : l.Lined where
  calling := calling
  polling := fun hp => absurd hp polling
  sending := fun hl => absurd hl line
  free := by simp [exchange]
  live := by simp [exchange]
  judged := by simp [exchange]

/-- The end of an exchange leaves the line free (R105). -/
theorem endExchange_lined {s : State} (calling : s.link.CallsFree) :
    (endExchange s).link.Lined := by
  by_cases hp : s.link.phase = .polling
  · rw [endExchange_polling s hp]
    exact comeToNext_lined (fun h => Line.noConfusion h) (by simp) (by simp)
  · rw [endExchange_other s hp]
    exact .of_free calling hp rfl Line.noConfusion

/-- A judged reply whose bytes still come holds the line (R105). -/
theorem holdLine_lined {s u : State} {x : Exchange} (hx : s.link.exchange = some x)
    (lined : s.link.Lined) (h : Link.Replied s.link u.link) : (holdLine x u).link.Lined where
  calling := h.calling
  polling := by
    intro hp
    obtain ⟨y, hy, live, position⟩ := lined.polling (h.phase ▸ hp)
    cases hx.symm.trans hy
    exact ⟨_, rfl, live, h.position.trans position⟩
  sending := fun hl => Line.noConfusion hl
  free := by
    rintro _ ⟨⟩ _ unjudged
    cases unjudged
  live := by
    rintro _ ⟨⟩ live
    show u.link.phase.holdsLive
    rw [h.phase]
    exact lined.live x hx live
  judged := fun _ _ _ => rfl

/-! ## The steps of the link -/

/-- The judgement of an unjudged reply ends its exchange or holds the line (R105, R114). -/
theorem workReplyJudge_shift {s : State} {x : Exchange} (stop : Bool) (bytes : List Byte)
    (hx : s.link.exchange = some x) (unjudged : x.judged = false) :
    LinkShift s (workReplyJudge x stop bytes s) := by
  have map := judgedReply_map x (judgeFrame x.agent stop bytes) s
  have replied := judgedReply_replied (judgeFrame x.agent stop bytes)
    (judgeFrame_agent x.agent stop bytes) hx unjudged
  unfold workReplyJudge
  dsimp only
  split
  · exact .of_link (map.trans (by constructor <;> rfl)) fun queued lined =>
      ⟨(replied queued lined).queued.round rfl rfl, holdLine_lined hx lined (replied queued lined)⟩
  · exact .of_link (map.trans (endExchange_map _)) fun queued lined =>
      ⟨endExchange_queued (replied queued lined).queued,
        endExchange_lined (replied queued lined).calling⟩

/-- The end of an exchange alone (R105). -/
theorem endExchange_shift (s : State) : LinkShift s (endExchange s) :=
  .of_link (endExchange_map s) fun queued lined =>
    ⟨endExchange_queued queued, endExchange_lined lined.calling⟩

/-- Discarded bytes hold the line, or leave it with no exchange (R105, R126). -/
theorem discardBytes_shift (bytes : List Byte) (s : State) :
    LinkShift s (discardBytes bytes s) := by
  unfold discardBytes
  split
  · exact .of_link (by constructor <;> rfl) fun queued lined => ⟨queued.round rfl rfl,
      lined.calling, lined.polling, fun hl => Line.noConfusion hl, lined.free, lined.live,
      fun _ _ _ => rfl⟩
  · split
    · exact endExchange_shift s
    · next alone =>
      have gone : s.link.exchange = none := by simpa using alone
      exact .of_link (by constructor <;> rfl) fun queued lined => ⟨queued.round rfl rfl,
        lined.calling, lined.polling, fun hl => Line.noConfusion hl, lined.free, lined.live,
        fun x hx _ => nomatch gone.symm.trans hx⟩

theorem workReplyWindowClose_shift {s : State} {x : Exchange} (hx : s.link.exchange = some x)
    (unjudged : x.judged = false) : LinkShift s (workReplyWindowClose x s) := by
  unfold workReplyWindowClose
  split
  · next live =>
    refine .of_link ((miss_map _ _ s).trans (endExchange_map _)) fun queued lined => ?_
    have missed := miss_replied queued (lined.not_calling hx live) none
      (lined.free x hx live unjudged)
    exact ⟨endExchange_queued missed.queued, endExchange_lined missed.calling⟩
  · exact endExchange_shift s

/-- A round begins with no live exchange on the line (R112, R124). -/
theorem roundStart_shift {s : State} (starts : s.link.roundStarts = true) :
    LinkShift s (comeToNext { s with link.position := none }) := by
  have begun : SameMap s { s with link.position := none } := by constructor <;> rfl
  refine .of_link (begun.trans (comeToNext_map _)) fun queued lined =>
    ⟨comeToNext_queued (queued.round rfl rfl), comeToNext_lined lined.sending (fun x hx live => ?_)
      lined.judged⟩
  have exchange : s.link.exchange = some x := hx
  unfold Link.roundStarts at starts
  rcases lined.live x exchange live with hp | hp | hp <;> simp [hp, exchange] at starts

/-- The POLL to the agent come to begins (R104, R113). -/
theorem sendPoll_shift {s : State} (due : s.pollDue = true) : LinkShift s (sendPoll s) := by
  unfold State.pollDue at due
  simp only [Bool.and_eq_true, beq_iff_eq] at due
  obtain ⟨⟨⟨_, calling⟩, _⟩, _⟩ := due
  unfold sendPoll
  split
  · next x found =>
    obtain ⟨a, position, found⟩ := Option.bind_eq_some_iff.mp found
    obtain ⟨_, address⟩ := findAgent_some found
    refine .of_link (by constructor <;> rfl) fun queued lined => ⟨queued.round rfl rfl, ?_⟩
    obtain ⟨b, hb, free⟩ := lined.calling calling
    cases position.symm.trans hb
    have polled : s.link.Free x.address := address ▸ free
    exact ⟨fun hp => RoundPhase.noConfusion hp, fun _ => ⟨_, rfl, rfl, address ▸ position⟩,
      fun _ => ⟨_, rfl, rfl⟩, by rintro _ ⟨⟩ _ _; exact polled, fun _ _ _ => .inl rfl,
      by rintro _ ⟨⟩ judged; cases judged⟩
  · exact .of_same (.refl s) rfl

/-- The last stop bit of a POLL leaves the line to its reply (R104). -/
theorem pollSent_shift {s : State} (sending : s.link.line = .sending) :
    LinkShift s { s with link.line := .idle } := by
  refine .of_link (by constructor <;> rfl) fun queued lined => ⟨queued.round rfl rfl,
    lined.calling, lined.polling, fun hl => Line.noConfusion hl, lined.free, lined.live,
    fun x hx judged => ?_⟩
  have busy := lined.judged x hx judged
  rw [sending] at busy
  cases busy

theorem RoundPhase.tick_eq_iff (p q : RoundPhase) (h : ∀ left, q ≠ .gap left) :
    p.tick = q ↔ p = q := by
  cases p with
  | gap left => exact ⟨fun e => absurd e.symm (h _), fun e => absurd e.symm (h _)⟩
  | _ => exact Iff.rfl

/-- A millisecond moves nothing of the link but the gap after a round (R112). -/
theorem tick_shift (s : State) : LinkShift s (tick s) := by
  have link : (tick s).link = { s.link with phase := s.link.phase.tick } := by
    unfold tick expireIfDue
    dsimp only
    split <;> rfl
  have map : SameMap s (tick s) := by
    unfold tick expireIfDue
    dsimp only
    split <;> constructor <;> rfl
  have phase := RoundPhase.tick_eq_iff s.link.phase
  refine .of_link map fun queued lined => ?_
  rw [link]
  refine ⟨queued.round rfl rfl, fun hp => lined.calling ((phase _ (by simp)).mp hp),
    fun hp => lined.polling ((phase _ (by simp)).mp hp), lined.sending, lined.free,
    fun x hx live => ?_, lined.judged⟩
  rcases lined.live x hx live with hp | hp | hp
  · exact .inl ((phase _ (by simp)).mpr hp)
  · exact .inr (.inl ((phase _ (by simp)).mpr hp))
  · exact .inr (.inr ((phase _ (by simp)).mpr hp))

/-- The head of the queue is answered (R111, R118). -/
theorem dequeue_shift {s : State} {a : Byte} {e : LinkEntry} {rest : List LinkEntry}
    (head : s.link.queue = e :: rest) (owner : e.owner = a) : LinkShift s (dequeue a s) :=
  .of_link (by constructor <;> rfl) fun queued lined =>
    ⟨dequeue_queued queued head owner, dequeue_lined a lined⟩

theorem answerReport_shift {s : State} {r : Report} {rest : List LinkEntry}
    (head : s.link.queue = .report r :: rest) (v : Verdict) : LinkShift s (answerReport r v s) :=
  .of_link (by constructor <;> rfl) fun queued lined =>
    ⟨withAgent_queued _ (Agent.beside_stored _) (dequeue_queued queued head rfl),
      withAgent_lined _ (Agent.beside_stored _) (dequeue_lined _ lined)⟩

/-! ## The link at a commit and at WARM-RESTART -/

/-- A Link Controller with an empty queue and no pending agent (R123, R124). -/
theorem Link.Queued.of_empty {l : Link}
    (ascending : l.roster.Pairwise fun x y => x.address.toNat < y.address.toNat)
    (queue : l.queue = []) (idle : ∀ x ∈ l.roster, x.waiting = false) : l.Queued := by
  have owners : l.owners = [] := by unfold Link.owners; rw [queue]; rfl
  exact ⟨ascending, by rw [queue]; exact Nat.zero_le _, owners ▸ List.nodup_nil,
    fun x hx => by rw [owners, idle x hx]; simp, by rw [owners]; simp⟩

/-- WARM-RESTART empties the queue and leaves the exchange on the line (R124). -/
theorem Link.restart_laws {l : Link} (loaded : Bool) (queued : l.Queued) (lined : l.Lined) :
    (l.restart loaded).Queued ∧ (l.restart loaded).Lined := by
  have phase : (l.restart loaded).phase = .dueAfter ∨ (l.restart loaded).phase = .stopped := by
    unfold Link.restart
    dsimp only
    split
    · exact .inl rfl
    · exact .inr rfl
  have stopped : ∀ p, p ≠ .dueAfter → p ≠ .stopped → (l.restart loaded).phase ≠ p :=
    fun p h h' hp => phase.elim (fun e => h (hp.symm.trans e)) fun e => h' (hp.symm.trans e)
  refine ⟨.of_empty (ascending_map _ (fun _ => rfl) queued.ascending) rfl ?_,
    fun hp => absurd hp (stopped _ RoundPhase.noConfusion RoundPhase.noConfusion),
    fun hp => absurd hp (stopped _ RoundPhase.noConfusion RoundPhase.noConfusion),
    lined.sending, fun x hx live judged => ?_, fun _ _ _ => .inr phase, lined.judged⟩
  · intro _ mem
    obtain ⟨x, _, rfl⟩ := List.mem_map.mp mem
    rfl
  · exact (lined.free x hx live judged).map rfl fun _ => ⟨rfl, fun _ => rfl⟩

/-- A commit stops the polling and empties the queue; no exchange counts any longer in full
(R123). -/
theorem Link.atCommit_laws {l : Link} (queued : l.Queued) (lined : l.Lined) :
    l.atCommit.Queued ∧ l.atCommit.Lined := by
  have exchange : ∀ y, l.atCommit.exchange = some y →
      ∃ x, l.exchange = some x ∧ y.judged = x.judged ∧ y.fate ≠ .live := by
    intro y hy
    obtain ⟨x, hx, rfl⟩ := Option.map_eq_some_iff.mp hy
    refine ⟨x, hx, rfl, ?_⟩
    unfold Exchange.atCommit
    dsimp only
    split
    · exact ExchangeFate.noConfusion
    · assumption
  refine ⟨.of_empty (ascending_map _ (fun _ => rfl) queued.ascending) rfl ?_,
    fun hp => RoundPhase.noConfusion hp, fun hp => RoundPhase.noConfusion hp, fun sending => ?_,
    fun y hy live => ?_, fun y hy live => ?_, fun y hy judged => ?_⟩
  · intro _ mem
    obtain ⟨x, _, rfl⟩ := List.mem_map.mp mem
    rfl
  · obtain ⟨x, hx, judged⟩ := lined.sending sending
    refine ⟨x.atCommit, ?_, judged⟩
    show l.exchange.map Exchange.atCommit = _
    rw [hx]
    rfl
  · obtain ⟨_, _, _, stale⟩ := exchange y hy
    exact absurd live stale
  · obtain ⟨_, _, _, stale⟩ := exchange y hy
    exact absurd live stale
  · obtain ⟨x, hx, same, _⟩ := exchange y hy
    exact lined.judged x hx (same ▸ judged)

end Sys2Proof.Machine

/-!
The roster that the end of a commit builds from the map (R64, R109), and COMMIT_COMPLETE.
-/

namespace Sys2Proof.Machine

/-! ## The roster of a map -/

theorem insertAgent_perm (a : Agent) (l : List Agent) : (insertAgent a l).Perm (a :: l) := by
  induction l with
  | nil => exact .refl _
  | cons b rest ih =>
    unfold insertAgent
    split
    · exact .refl _
    · exact (ih.cons b).trans (.swap a b rest)

/-- A record of a new address goes to its place in the order (R109). -/
theorem insertAgent_ascending (a : Agent) (l : List Agent) (new : ∀ b ∈ l, b.address ≠ a.address)
    (h : l.Pairwise fun x y => x.address.toNat < y.address.toNat) :
    (insertAgent a l).Pairwise fun x y => x.address.toNat < y.address.toNat := by
  induction l with
  | nil => exact List.pairwise_singleton _ a
  | cons b rest ih =>
    obtain ⟨first, tail⟩ := List.pairwise_cons.mp h
    unfold insertAgent
    split
    · next below =>
      refine List.pairwise_cons.mpr ⟨fun y hy => ?_, h⟩
      rcases List.mem_cons.mp hy with rfl | hy
      · exact below
      · exact below.trans (first y hy)
    · next above =>
      have other : b.address.toNat ≠ a.address.toNat :=
        fun e => new b List.mem_cons_self (BitVec.eq_of_toNat_eq e)
      refine List.pairwise_cons.mpr ⟨fun y hy => ?_,
        ih (fun c hc => new c (List.mem_cons_of_mem b hc)) tail⟩
      rcases List.mem_cons.mp ((insertAgent_perm a rest).mem_iff.mp hy) with rfl | hy
      · omega
      · exact first y hy

theorem rosterFrom_without {l : Location} (h : l.agent = 0) (i : Nat) (rest : List Location) :
    rosterFrom i (l :: rest) = rosterFrom (i + 1) rest := if_pos h

theorem rosterFrom_carries {l : Location} (h : l.agent ≠ 0) (i : Nat) (rest : List Location) :
    rosterFrom i (l :: rest) = insertAgent (rosterRecord i l) (rosterFrom (i + 1) rest) := if_neg h

/-- A roster record for each location that carries an agent (R64). -/
theorem mem_rosterFrom (i : Nat) (locs : List Location) (x : Agent) : x ∈ rosterFrom i locs ↔
    ∃ (k : Nat) (l : Location), locs[k]? = some l ∧ l.agent ≠ 0 ∧ x = rosterRecord (i + k) l := by
  induction locs generalizing i with
  | nil => simp [rosterFrom]
  | cons l rest ih =>
    have later : (∃ (k : Nat) (m : Location), rest[k]? = some m ∧ m.agent ≠ 0
          ∧ x = rosterRecord (i + 1 + k) m)
        ↔ ∃ (k : Nat) (m : Location), (l :: rest)[k + 1]? = some m ∧ m.agent ≠ 0
          ∧ x = rosterRecord (i + (k + 1)) m := by
      simp only [List.getElem?_cons_succ, Nat.add_assoc, Nat.add_comm 1]
    have split_first : (∃ (k : Nat) (m : Location), (l :: rest)[k]? = some m ∧ m.agent ≠ 0
          ∧ x = rosterRecord (i + k) m)
        ↔ (l.agent ≠ 0 ∧ x = rosterRecord i l)
          ∨ ∃ (k : Nat) (m : Location), (l :: rest)[k + 1]? = some m ∧ m.agent ≠ 0
            ∧ x = rosterRecord (i + (k + 1)) m := by
      constructor
      · rintro ⟨k, m, hk, carries, hx⟩
        cases k with
        | zero => cases hk; exact .inl ⟨carries, hx⟩
        | succ k => exact .inr ⟨k, m, hk, carries, hx⟩
      · rintro (⟨carries, hx⟩ | ⟨k, m, hk, carries, hx⟩)
        · exact ⟨0, l, rfl, carries, hx⟩
        · exact ⟨k + 1, m, hk, carries, hx⟩
    rw [split_first, ← later, ← ih]
    by_cases without : l.agent = 0
    · rw [rosterFrom_without without]
      exact (or_iff_right fun first => first.1 without).symm
    · rw [rosterFrom_carries without, (insertAgent_perm _ _).mem_iff, List.mem_cons]
      exact or_congr_left (and_iff_right without).symm

theorem rosterFrom_length (i : Nat) (locs : List Location) :
    (rosterFrom i locs).length = locs.countP (·.agent != 0) := by
  induction locs generalizing i with
  | nil => rfl
  | cons l rest ih =>
    by_cases without : l.agent = 0
    · rw [rosterFrom_without without, List.countP_cons_of_neg (by simpa using without), ih]
    · rw [rosterFrom_carries without, List.countP_cons_of_pos (by simpa using without),
        (insertAgent_perm _ _).length_eq, List.length_cons, ih]

/-- The roster is in ascending order where no two locations hold one address (R58, R109). -/
theorem rosterFrom_ascending (i : Nat) (locs : List Location)
    (h : (heldAddresses (locs.map (·.agent))).Nodup) :
    (rosterFrom i locs).Pairwise fun x y => x.address.toNat < y.address.toNat := by
  induction locs generalizing i with
  | nil => exact List.Pairwise.nil
  | cons l rest ih =>
    by_cases without : l.agent = 0
    · rw [rosterFrom_without without]
      have held : heldAddresses ((l :: rest).map (·.agent))
          = heldAddresses (rest.map (·.agent)) :=
        List.filter_cons_of_neg (by simpa using without)
      exact ih _ (held ▸ h)
    · rw [rosterFrom_carries without]
      have held : heldAddresses ((l :: rest).map (·.agent))
          = l.agent :: heldAddresses (rest.map (·.agent)) :=
        List.filter_cons_of_pos (by simpa using without)
      obtain ⟨alone, tail⟩ := List.nodup_cons.mp (held ▸ h)
      refine insertAgent_ascending _ _ (fun b hb same => alone ?_) (ih _ tail)
      obtain ⟨k, m, hk, carries', rfl⟩ := (mem_rosterFrom _ _ b).mp hb
      have address : m.agent = l.agent := same
      exact List.mem_filter.mpr ⟨address ▸ List.mem_map_of_mem (List.mem_of_getElem? hk),
        by simpa using without⟩

/-- The Link Controller at the end of a commit: a new roster, and no exchange that counts (R64,
R123). -/
theorem Link.rebuilt_laws {l : Link} (locs : List Location)
    (held : (heldAddresses (locs.map (·.agent))).Nodup) (lined : l.Lined) :
    (l.rebuilt locs).Queued ∧ (l.rebuilt locs).Lined := by
  have exchange : ∀ y, (l.rebuilt locs).exchange = some y →
      ∃ x, l.exchange = some x ∧ y = { x with fate := .dropped } := by
    intro y hy
    obtain ⟨x, hx, rfl⟩ := Option.map_eq_some_iff.mp hy
    exact ⟨x, hx, rfl⟩
  have phase : (l.rebuilt locs).phase = .stopped ∨ (l.rebuilt locs).phase = .due := by
    unfold Link.rebuilt
    dsimp only
    split
    · exact .inl rfl
    · exact .inr rfl
  have none : ∀ p, p ≠ .stopped → p ≠ .due → (l.rebuilt locs).phase ≠ p :=
    fun p h h' hp => phase.elim (fun e => h (hp.symm.trans e)) fun e => h' (hp.symm.trans e)
  refine ⟨.of_empty (rosterFrom_ascending 0 locs held) rfl fun x hx => ?_,
    fun hp => absurd hp (none _ RoundPhase.noConfusion RoundPhase.noConfusion),
    fun hp => absurd hp (none _ RoundPhase.noConfusion RoundPhase.noConfusion),
    fun sending => ?_, fun y hy live => ?_, fun y hy live => ?_, fun y hy judged => ?_⟩
  · obtain ⟨k, m, _, _, rfl⟩ := (mem_rosterFrom 0 locs x).mp hx
    rfl
  · obtain ⟨x, hx, judged⟩ := lined.sending sending
    refine ⟨{ x with fate := .dropped }, ?_, judged⟩
    show l.exchange.map _ = _
    rw [hx]
    rfl
  · obtain ⟨x, _, rfl⟩ := exchange y hy
    cases live
  · obtain ⟨x, _, rfl⟩ := exchange y hy
    cases live
  · obtain ⟨x, hx, rfl⟩ := exchange y hy
    exact lined.judged x hx judged

/-! ## COMMIT_COMPLETE -/

theorem execCommitComplete_committing (s : State) (live : s.live = true)
    (h : s.topo.state = .committing) :
    execCommitComplete s = .next (workCommitComplete s) := by
  unfold execCommitComplete
  rw [live, h]
  rfl

/-- Settles O15, by what the roster of a map holds. -/
theorem commitEndsLoaded : Obligations.CommitEndsLoaded := by
  unfold Obligations.CommitEndsLoaded
  intro s live committing
  refine ⟨_, execCommitComplete_committing s live committing, rfl, fun x => ?_,
    rosterFrom_ascending 0 s.topo.locs, rosterFrom_length 0 s.topo.locs, rfl, ?_, rfl, rfl, rfl,
    rfl, rfl, rfl, rfl, rfl, cause_set _ Cause.done, rfl, rfl, rfl, rfl, rfl⟩
  · refine (mem_rosterFrom 0 s.topo.locs x).trans ?_
    simp only [Nat.zero_add]
    exact Iff.rfl
  · show (if (rosterFrom 0 s.topo.locs).isEmpty then RoundPhase.stopped else .due)
      = if rosterFrom 0 s.topo.locs = [] then .stopped else .due
    simp only [List.isEmpty_iff]

end Sys2Proof.Machine

/-!
The map under a request of the Table Engine: what an operation leaves of its records (R48, R49, R54,
R55), and the roll-up counts that go with the active entries (R51).
-/

namespace Sys2Proof.Machine

/-! ## What an operation leaves of a record -/

/-- The record without its counts and its marks (R51, R54). -/
def Location.plain (l : Location) : Location := { l.uncounted with uMark := false, fMark := false }

/-- The record as TOPO-PUT gave it: without counts, marks and presence (R48, R55). -/
def Location.given (l : Location) : Location := { l.plain with presence := .unverified }

/-- The records stay as they were given, and the presence of the root stays (R49). -/
structure SameRecords (locs locs' : List Location) : Prop where
  given : locs'.map Location.given = locs.map Location.given
  root : presenceAt locs' 0 = presenceAt locs 0

theorem SameRecords.refl (locs : List Location) : SameRecords locs locs := ⟨rfl, rfl⟩

theorem SameRecords.trans {a b c : List Location} (h : SameRecords a b) (h' : SameRecords b c) :
    SameRecords a c := ⟨h'.given.trans h.given, h'.root.trans h.root⟩

/-- A list of records read through a function of the record that was given. -/
theorem SameRecords.map_eq {locs locs' : List Location} (h : SameRecords locs locs') {α : Type}
    (f : Location → α) (hf : ∀ l, f l.given = f l) : locs'.map f = locs.map f := by
  have same := congrArg (List.map f) h.given
  simpa only [List.map_map, Function.comp_def, hf] using same

theorem presenceAt_map (f : Location → Location) (hf : ∀ l, (f l).presence = l.presence)
    (locs : List Location) (i : Nat) : presenceAt (locs.map f) i = presenceAt locs i := by
  unfold presenceAt
  rw [List.getElem?_map]
  cases locs[i]? with
  | none => rfl
  | some l => exact hf l

theorem SameRecords.of_plain {locs locs' : List Location}
    (h : locs'.map Location.plain = locs.map Location.plain) : SameRecords locs locs' := by
  refine ⟨?_, ?_⟩
  · have through : Location.given = Location.given ∘ Location.plain := rfl
    rw [through, ← List.map_map, ← List.map_map, h]
  · rw [← presenceAt_map Location.plain (fun _ => rfl), h,
      presenceAt_map Location.plain fun _ => rfl]

/-- The operation moves nothing of the map but counts and marks. -/
def Work.Steady (w w' : Work) : Prop := w'.locs.map Location.plain = w.locs.map Location.plain

theorem Work.Steady.refl (w : Work) : Work.Steady w w := Eq.refl _

theorem Work.Steady.trans {w w' w'' : Work} (h : Work.Steady w w') (h' : Work.Steady w' w'') :
    Work.Steady w w'' := Eq.trans h' h

theorem Work.Silent.steady {w w' : Work} (h : Work.Silent w w') : Work.Steady w w' := by
  have through : Location.plain = Location.plain ∘ Location.uncounted := rfl
  unfold Work.Steady
  rw [through, ← List.map_map, ← List.map_map, h.locs]

/-- The operation leaves the records as they were given (R48). -/
def Work.Records (w w' : Work) : Prop := SameRecords w.locs w'.locs

theorem Work.Records.refl (w : Work) : Work.Records w w := SameRecords.refl _

theorem Work.Records.trans {w w' w'' : Work} (h : Work.Records w w') (h' : Work.Records w' w'') :
    Work.Records w w'' := SameRecords.trans h h'

theorem Work.Steady.records {w w' : Work} (h : Work.Steady w w') : Work.Records w w' :=
  SameRecords.of_plain h

theorem countUp_plain (locs : List Location) (a : Nat) :
    (countUp locs a).map Location.plain = locs.map Location.plain := by
  unfold countUp
  refine List.ext_getElem (by simp) fun n h1 h2 => ?_
  simp [Location.plain, Location.uncounted]

/-- A change of one record that a view does not see. -/
theorem map_modify_of_same {α : Type} (f : Location → α) (g : Location → Location)
    (h : ∀ l, f (g l) = f l) (locs : List Location) (i : Nat) :
    (locs.modify i g).map f = locs.map f := by
  refine List.ext_getElem (by simp) fun n h1 h2 => ?_
  simp only [List.getElem_map, List.getElem_modify]
  split
  · exact h _
  · rfl

theorem setMark_plain (l : Location) (d : Domain) (b : Bool) : (l.setMark d b).plain = l.plain := by
  cases d <;> rfl

theorem markAt_plain (locs : List Location) (d : Domain) (i : Nat) (b : Bool) :
    (markAt locs d i b).map Location.plain = locs.map Location.plain :=
  map_modify_of_same _ _ (fun l => setMark_plain l d b) locs i

theorem clearMarks_plain (locs : List Location) (d : Domain) :
    (clearMarks locs d).map Location.plain = locs.map Location.plain := by
  unfold clearMarks
  rw [List.map_map]
  exact List.map_congr_left fun l _ => setMark_plain l d false

/-- The root's presence is never changed (R49). -/
theorem setPresence_records (locs : List Location) (i : Nat) (p : Presence) :
    SameRecords locs (setPresence locs i p) := by
  unfold setPresence
  split
  · exact .refl locs
  · next root =>
    refine ⟨map_modify_of_same Location.given (fun l => { l with presence := p }) (fun _ => rfl)
      locs i, ?_⟩
    unfold presenceAt
    rw [List.getElem?_modify_ne _ _ root]

/-! ## Raises -/

theorem Work.raiseStanding_steady (w : Work) (r : Raise) (i : Fin 128) (e : Entry) :
    Work.Steady w (w.raiseStanding r i e).1 := by
  unfold Work.raiseStanding
  split
  · unfold Work.Steady
    rw [Work.repeatRaise_locs]
  · split
    · exact .refl w
    · exact countUp_plain _ _

theorem Work.create_steady (w : Work) (r : Raise) (i : Fin 128) :
    Work.Steady w (w.create r i) := by
  unfold Work.Steady
  rw [Work.create_locs]
  split
  · rfl
  · exact countUp_plain _ _

theorem Work.raiseTableFull_steady (w : Work) (d : Domain) :
    Work.Steady w (w.raiseTableFull d) := by
  unfold Work.raiseTableFull
  dsimp only
  split
  · split
    · exact raiseStanding_steady w _ _ _
    · exact .refl w
  · split
    · exact .refl w
    · exact create_steady w _ _

theorem Work.refuseFull_steady (w : Work) (d : Domain) (a : Nat) :
    Work.Steady w (w.refuseFull d a) := by
  have marked : Work.Steady w { w with locs := markAt w.locs d a true } := markAt_plain _ _ _ _
  exact marked.trans (raiseTableFull_steady { w with locs := markAt w.locs d a true } d)

theorem Work.displace_steady (w : Work) (r : Raise) (i : Fin 128) :
    Work.Steady w (w.displace r i) :=
  (w.retire_silent i).steady.trans (create_steady (w.retire i) r i)

theorem Work.createInRoom_steady (w : Work) (r : Raise) :
    Work.Steady w (w.createInRoom r).1 := by
  unfold Work.createInRoom
  dsimp only
  split
  · exact create_steady w r _
  · split
    · exact create_steady w r _
    · split
      · exact create_steady w r _
      · split
        · exact displace_steady w r _
        · exact refuseFull_steady w _ _

/-- A raise moves nothing of the map but counts and marks (R17, R51, R92). -/
theorem Work.raise_steady (w : Work) (r : Raise) : Work.Steady w (w.raise r).1 := by
  unfold Work.raise
  split
  · split
    · exact raiseStanding_steady w r _ _
    · exact .refl w
  · split
    · exact .refl w
    · exact createInRoom_steady w r

theorem Work.raiseSilent_steady (w : Work) (paths : List LocPath) :
    Work.Steady w (w.raiseSilent paths) := by
  unfold Work.raiseSilent
  induction paths generalizing w with
  | nil => exact .refl w
  | cons p rest ih => exact (raise_steady w _).trans (ih _)

/-! ## The requests of the link -/

theorem Work.restore_records (w : Work) (k : Key) : Work.Records w (w.restore k).1 :=
  (w.restore_silent k).steady.records

theorem Work.raise_records (w : Work) (r : Raise) : Work.Records w (w.raise r).1 :=
  (w.raise_steady r).records

theorem Work.arriveKind_records (w : Work) (l : Location) (installed : Byte) :
    Work.Records w (w.arriveKind l installed) := by
  unfold Work.arriveKind
  split
  · exact restore_records w _
  · exact raise_records w _

theorem Work.arriveReturn_records (w : Work) (l : Location) (silent : Bool) :
    Work.Records w (w.arriveReturn l silent) := by
  unfold Work.arriveReturn
  split
  · exact raise_records w _
  · exact .refl w

theorem Work.arrive_records (w : Work) (i : Nat) (l : Location) (installed : Byte) :
    Work.Records w (w.arrive i l installed) := by
  have arrived : ∀ p, Work.Records w
      { w with locs := markAt (setPresence w.locs i p) .field i false } := fun p =>
    (setPresence_records w.locs i p).trans (.of_plain (markAt_plain _ _ _ _))
  have restored := (((arrived (if kindMatches l installed then .present else .foreign)).trans
    (restore_records _ ⟨l.path, 1, 1⟩)).trans (restore_records _ ⟨l.path, 1, 2⟩)).trans
    (restore_records _ ⟨l.path, 2, 0⟩)
  exact (restored.trans (arriveKind_records _ l installed)).trans (arriveReturn_records _ l _)

theorem Work.depart_records (w : Work) (i : Nat) (p : LocPath) (code : Byte) :
    Work.Records w (w.depart i p code) := by
  have left : Work.Records w { w with locs := setPresence w.locs i .absent } :=
    setPresence_records w.locs i .absent
  have restored := left.trans (restore_records _ ⟨p, 4, 0⟩)
  unfold Work.depart
  dsimp only
  split
  · exact restored
  · exact restored.trans (raise_records _ _)

theorem Work.reportArrive_records (w : Work) (r : Report) :
    Work.Records w (w.reportArrive r).1 := by
  unfold Work.reportArrive
  split
  · split
    · exact arrive_records w _ _ _
    · exact .refl w
  · exact raise_records w _

theorem Work.reportDepart_records (w : Work) (r : Report) :
    Work.Records w (w.reportDepart r).1 := by
  unfold Work.reportDepart
  split
  · exact depart_records w _ _ _
  · exact restore_records w _

theorem Work.partWork_records (w : Work) (i : Nat) (home : LocPath) (linkCode : Option Byte)
    (lapse : Bool) : Work.Records w ((w.partLink home linkCode).partLapse i home lapse) := by
  have linked : Work.Records w (w.partLink home linkCode) := by
    unfold Work.partLink
    split
    · exact raise_records w _
    · exact .refl w
  refine linked.trans ?_
  unfold Work.partLapse
  split
  · exact depart_records _ i home 2
  · exact .refl _

theorem Work.reportArrive_changes (w : Work) (r : Report) (hw : w.Reserved) :
    Work.Changes w (w.reportArrive r).1 := by
  unfold Work.reportArrive
  split
  · split
    · exact arrive_changes w _ _ _ hw
    · exact .refl
  · exact raisePart_changes w _ _ _ _ hw

theorem Work.reportDepart_changes (w : Work) (r : Report) (hw : w.Reserved) :
    Work.Changes w (w.reportDepart r).1 := by
  unfold Work.reportDepart
  split
  · exact depart_changes w _ _ _ hw
  · exact changes_of_eases (restore_eases w _)

/-! ## The counts that roll up -/

/-- The entry is active, and its anchor is one of q (R51). -/
def activeAt (q : Nat → Bool) (e : Entry) : Bool := e.state.active && q e.anchor

/-- ACTIVE_OWN and ACTIVE_BELOW of every record count the active entries at it and below it
(R51). -/
def RolledUp (slots : Vector Slot 128) (locs : List Location) : Prop :=
  ∀ (j : Nat) (l : Location), locs[j]? = some l →
    l.own = countEntries slots (activeAt (· == j))
      ∧ l.below = countEntries slots (activeAt fun a => (ancestors locs a).contains j)

theorem rollUpLaw_iff (s : State) : RollUpLaw s ↔ RolledUp s.engine.slots s.topo.locs := Iff.rfl

theorem parentOf_eq (locs : List Location) (i : Nat) :
    parentOf locs i = ((locs.map (·.parent))[i]?).getD 0 := by
  unfold parentOf
  rw [List.getElem?_map]
  cases locs[i]? <;> rfl

theorem ancestors_congr {locs locs' : List Location}
    (h : locs'.map (·.parent) = locs.map (·.parent)) : ancestors locs' = ancestors locs := by
  have parents : ∀ i, parentOf locs' i = parentOf locs i := fun i => by
    rw [parentOf_eq, parentOf_eq, h]
  have upTo : ∀ n i, ancestorsUpTo locs' n i = ancestorsUpTo locs n i := by
    intro n
    induction n with
    | zero => exact fun i => rfl
    | succ n ih =>
      intro i
      unfold ancestorsUpTo
      rw [parents, ih]
  exact funext (upTo 3)

/-- What the law of the counts reads of a record. -/
def Location.tally (l : Location) : Nat × Nat × Nat := (l.parent, l.own, l.below)

theorem RolledUp.of_tally {slots : Vector Slot 128} {locs locs' : List Location}
    (h : RolledUp slots locs) (same : locs'.map Location.tally = locs.map Location.tally) :
    RolledUp slots locs' := by
  have parents : locs'.map (·.parent) = locs.map (·.parent) := by
    simpa only [List.map_map, Function.comp_def, Location.tally] using
      congrArg (List.map fun x => x.1) same
  intro j l' hl'
  have at_j := congrArg (·[j]?) same
  simp only [List.getElem?_map, hl', Option.map_some] at at_j
  obtain ⟨l, hl, tally⟩ := Option.map_eq_some_iff.mp at_j.symm
  obtain ⟨_, counts⟩ := Prod.mk.inj tally
  obtain ⟨own, below⟩ := Prod.mk.inj counts
  rw [← own, ← below, ancestors_congr parents]
  exact h j l hl

/-- The counts after an entry anchored at a entered or left the active states, or did neither
(R51). -/
def recount (locs : List Location) (a : Nat) (before after : Bool) : List Location :=
  if before = after then locs else if after then countUp locs a else countDown locs a

theorem moveCount_eq (locs : List Location) (e e' : Entry) :
    moveCount locs e e' = recount locs e.anchor e.state.active e'.state.active := rfl

theorem recount_get (locs : List Location) (a : Nat) (before after : Bool) (j : Nat) :
    (recount locs a before after)[j]? = locs[j]?.map fun l =>
      { l with
        own := if j = a then l.own + after.toNat - before.toNat else l.own
        below := if (ancestors locs a).contains j then l.below + after.toNat - before.toNat
          else l.below } := by
  unfold recount countUp countDown
  cases before <;> cases after
  · simp
  · simp
  · simp
  · simp

theorem recount_parents (locs : List Location) (a : Nat) (before after : Bool) :
    (recount locs a before after).map (·.parent) = locs.map (·.parent) := by
  refine List.ext_getElem? fun j => ?_
  rw [List.getElem?_map, List.getElem?_map, recount_get, Option.map_map]
  rfl

/-- A slot written keeps the counts, where they move with its entry's anchor and its activity. -/
theorem RolledUp.set {slots : Vector Slot 128} {locs : List Location} (h : RolledUp slots locs)
    (i : Fin 128) (x : Slot) (a : Nat) (before after : Bool)
    (old : ∀ q, slotCounts (activeAt q) slots[i] = (before && q a))
    (new : ∀ q, slotCounts (activeAt q) x = (after && q a)) :
    RolledUp (slots.set i.val x i.isLt) (recount locs a before after) := by
  have counts : ∀ q : Nat → Bool, countEntries (slots.set i.val x i.isLt) (activeAt q)
      = if q a then countEntries slots (activeAt q) + after.toNat - before.toNat
        else countEntries slots (activeAt q) := by
    intro q
    have hc := countEntries_set slots i x (activeAt q)
    rw [old, new] at hc
    generalize q a = hit at hc ⊢
    cases hit
    · simpa using hc
    · simp only [Bool.and_true, if_true] at hc ⊢
      cases before <;> cases after <;> simp at hc ⊢ <;> omega
  intro j l' hl'
  rw [recount_get] at hl'
  obtain ⟨l, hl, rfl⟩ := Option.map_eq_some_iff.mp hl'
  obtain ⟨own, below⟩ := h j l hl
  rw [ancestors_congr (recount_parents locs a before after), counts, counts, ← own, ← below]
  exact ⟨if_congr (by rw [beq_iff_eq]; exact eq_comm) rfl rfl, rfl⟩

theorem slotCounts_active {sl : Slot} {e : Entry} (h : sl.entry = some e) (q : Nat → Bool) :
    slotCounts (activeAt q) sl = (e.state.active && q e.anchor) := holds_some _ h

theorem slotCounts_free {sl : Slot} (h : sl.entry = none) (a : Nat) (q : Nat → Bool) :
    slotCounts (activeAt q) sl = (false && q a) := holds_none _ h

theorem Work.Ease.rolledUp {w w' : Work} (h : Work.Ease w w') (hw : RolledUp w.slots w.locs) :
    RolledUp w'.slots w'.locs := by
  cases h with
  | update i e e' events found key seq anchor =>
    refine hw.set i _ e.anchor e.state.active e'.state.active (slotCounts_active found) fun q => ?_
    rw [← anchor]
    exact slotCounts_active rfl q
  | retire i e found =>
    have kept := hw.set i ⟨w.slots[i].gen + 1, none⟩ e.anchor e.state.active false
      (slotCounts_active found) (slotCounts_free rfl e.anchor)
    have retired : w.retireEntry i = { w with
        slots := w.slots.set i.val ⟨w.slots[i].gen + 1, none⟩ i.isLt
        locs := if e.state.active then countDown w.locs e.anchor else w.locs } := by
      unfold Work.retireEntry
      rw [found]
    rw [retired]
    cases active : e.state.active <;> rw [active] at kept <;> exact kept

/-- Every primitive change of a request moves the counts with the active entries (R51). -/
theorem Work.Change.rolledUp {w w' : Work} (h : Work.Change w w')
    (hw : RolledUp w.slots w.locs) : RolledUp w'.slots w'.locs := by
  cases h with
  | ease w' h => exact h.rolledUp hw
  | create i e events free =>
    have kept := hw.set i { w.slots[i] with entry := some e } e.anchor false e.state.active
      (slotCounts_free free e.anchor) (slotCounts_active rfl)
    dsimp only
    cases active : e.state.active <;> rw [active] at kept <;> exact kept
  | flags => exact hw
  | mark d a b => exact hw.of_tally (map_modify_of_same _ _ (fun l => by cases d <;> rfl) _ _)
  | presence i p =>
    refine hw.of_tally ?_
    unfold setPresence
    dsimp only
    split
    · rfl
    · exact map_modify_of_same _ (fun l => { l with presence := p }) (fun l => rfl) _ _

theorem Work.rolledUp_of_changes {w w' : Work} (h : Work.Changes w w')
    (hw : RolledUp w.slots w.locs) : RolledUp w'.slots w'.locs := by
  induction h with
  | refl => exact hw
  | tail _ h ih => exact h.rolledUp ih

/-- Marks of the entries do not count. -/
theorem RolledUp.relabel {slots : Vector Slot 128} {locs : List Location}
    (hs : RolledUp slots locs) {h : Entry → Entry}
    (same : ∀ e, (h e).state = e.state ∧ (h e).anchor = e.anchor) :
    RolledUp (slots.map (Slot.relabel h)) locs := by
  have active : ∀ q e, activeAt q (h e) = activeAt q e := fun q e => by
    unfold activeAt
    rw [(same e).1, (same e).2]
  intro j l hl
  rw [countEntries_relabel _ _ _ (active _), countEntries_relabel _ _ _ (active _)]
  exact hs j l hl

theorem countEntries_congr {slots : Vector Slot 128} {p q : Entry → Bool}
    (h : ∀ (i : Fin 128) (e : Entry), slots[i].entry = some e → p e = q e) :
    countEntries slots p = countEntries slots q :=
  le_antisymm (countEntries_mono fun i e he hp => ⟨e, he, h i e he ▸ hp⟩)
    (countEntries_mono fun i e he hq => ⟨e, he, (h i e he).symm ▸ hq⟩)

/-- A commit installs its map with the kept entries counted at the root (R62, R63). -/
theorem rolledUp_installMap {slots : Vector Slot 128}
    (rooted : ∀ (i : Fin 128) (e : Entry), slots[i].entry = some e → e.anchor = 0)
    (staged : List Staged) :
    RolledUp slots (installMap staged (countEntries slots (·.state.active))) := by
  intro j l hl
  have bound : j < staged.length := by
    rw [← installMap_length staged (countEntries slots (·.state.active))]
    exact (List.getElem?_eq_some_iff.mp hl).1
  rw [installMap_get staged _ j _ (List.getElem?_eq_getElem bound)] at hl
  cases hl
  refine ⟨?_, Eq.symm ((countEntries_eq_zero _ _).mpr fun i e he => ?_)⟩
  · dsimp only
    split
    · next root =>
      refine countEntries_congr fun i e he => ?_
      unfold activeAt
      rw [rooted i e he, root]
      exact (Bool.and_true _).symm
    · next above =>
      refine Eq.symm ((countEntries_eq_zero _ _).mpr fun i e he => ?_)
      unfold activeAt
      rw [rooted i e he]
      exact Bool.and_eq_false_imp.mpr fun _ => beq_eq_false_iff_ne.mpr (Ne.symm above)
  · unfold activeAt
    rw [rooted i e he]
    exact Bool.and_false _

end Sys2Proof.Machine

/-!
The staging commands (R57 to R59): the checks of TOPO-PUT in their order, and what they leave.
-/

namespace Sys2Proof.Machine

/-! ## The form of the argument -/

theorem Level.ofByte_eq_some (b : Byte) (l : Level) : Level.ofByte b = some l ↔ b = l.code := by
  constructor
  · intro h
    unfold Level.ofByte at h
    split at h
    · next hb => cases h; exact beq_iff_eq.mp hb
    · split at h
      · next hb => cases h; exact beq_iff_eq.mp hb
      · split at h
        · next hb => cases h; exact beq_iff_eq.mp hb
        · split at h
          · next hb => cases h; exact beq_iff_eq.mp hb
          · cases h
  · rintro rfl
    cases l <;> rfl

/-- The station below the root (00_scope.md, 5.3). -/
theorem station_ne_root {station : Byte} (h : station.toNat ≤ 11) : station ≠ 0xFF := by
  rintro rfl
  exact absurd h (by decide)

theorem bay_ne_zero_iff (bay : Byte) : bay ≠ 0 ↔ 1 ≤ bay.toNat := by
  constructor <;> intro h <;> bv_omega

/-- The two forms of a well formed path (00_scope.md, 5.3). -/
theorem LocPath.wellFormed_iff (p : LocPath) : p.wellFormed = true ↔
    (p.station = 0xFF ∧ p.bay = 0 ∧ p.node = 0xFF ∧ p.channel = 0xFF)
      ∨ (p.station.toNat ≤ 11 ∧ p.bay.toNat ≤ 15
        ∧ (p.node = 0xFF ∨ (p.node.toNat ≤ 127 ∧ p.bay ≠ 0))
        ∧ (p.channel = 0xFF ∨ (p.channel.toNat ≤ 63 ∧ p.node ≠ 0xFF))) := by
  unfold LocPath.wellFormed
  by_cases hs : p.station = 0xFF
  · have above : ¬ p.station.toNat ≤ 11 := fun h => station_ne_root h hs
    rw [if_pos (beq_iff_eq.mpr hs)]
    simp only [Bool.and_eq_true, beq_iff_eq, hs, true_and, and_assoc]
    exact (or_iff_left fun h => above (hs ▸ h.1)).symm
  · rw [if_neg (mt beq_iff_eq.mp hs)]
    simp only [Bool.and_eq_true, Bool.or_eq_true, decide_eq_true_eq, beq_iff_eq, bne_iff_ne,
      and_assoc, hs, false_and, false_or]

theorem LocPath.hasChannel_iff (p : LocPath) : p.hasChannel = true ↔ p.channel ≠ 0xFF :=
  bne_iff_ne

theorem LocPath.configurable_iff (p : LocPath) :
    p.configurable = true ↔ p.wellFormed = true ∧ p.channel = 0xFF := by
  unfold LocPath.configurable LocPath.hasChannel
  simp only [Bool.and_eq_true, Bool.not_eq_true', bne_eq_false_iff_eq]

/-- The level of a path, by its form (R47). -/
theorem LocPath.level_eq (p : LocPath) : p.level = if p.station = 0xFF then .root
    else if p.bay = 0 then .station else if p.node = 0xFF then .bay else .node := by
  unfold LocPath.level
  simp only [beq_iff_eq]

/-- A configurable path with its level byte, by its forms (R47). -/
theorem configurable_level_iff (p : LocPath) (level : Byte) :
    (p.configurable = true ∧ level = p.level.code) ↔ p.channel = 0xFF
      ∧ ((p.station = 0xFF ∧ p.bay = 0 ∧ p.node = 0xFF ∧ level = 0)
        ∨ (p.station.toNat ≤ 11 ∧ p.bay = 0 ∧ p.node = 0xFF ∧ level = 1)
        ∨ (p.station.toNat ≤ 11 ∧ 1 ≤ p.bay.toNat ∧ p.bay.toNat ≤ 15 ∧ p.node = 0xFF ∧ level = 2)
        ∨ (p.station.toNat ≤ 11 ∧ 1 ≤ p.bay.toNat ∧ p.bay.toNat ≤ 15 ∧ p.node.toNat ≤ 127
            ∧ level = 3)) := by
  rw [LocPath.configurable_iff, LocPath.wellFormed_iff, LocPath.level_eq]
  constructor
  · rintro ⟨⟨⟨station, bay, node, _⟩ | ⟨station, bay, node, _⟩, channel⟩, rfl⟩
    · exact ⟨channel, .inl ⟨station, bay, node, by rw [if_pos station]; rfl⟩⟩
    · rw [if_neg (station_ne_root station)]
      refine ⟨channel, .inr ?_⟩
      by_cases hb : p.bay = 0
      · rw [if_pos hb]
        exact .inl ⟨station, hb, node.resolve_right fun h => h.2 hb, rfl⟩
      · rw [if_neg hb]
        have low := (bay_ne_zero_iff _).mp hb
        by_cases hn : p.node = 0xFF
        · rw [if_pos hn]
          exact .inr (.inl ⟨station, low, bay, hn, rfl⟩)
        · rw [if_neg hn]
          exact .inr (.inr ⟨station, low, bay, (node.resolve_left hn).1, rfl⟩)
  · rintro ⟨channel, ⟨station, bay, node, rfl⟩ | ⟨station, bay, node, rfl⟩
      | ⟨station, low, bay, node, rfl⟩ | ⟨station, low, bay, node, rfl⟩⟩
    · exact ⟨⟨.inl ⟨station, bay, node, channel⟩, channel⟩, by rw [if_pos station]; rfl⟩
    · rw [if_neg (station_ne_root station), if_pos bay]
      exact ⟨⟨.inr ⟨station, by rw [bay]; decide, .inl node, .inl channel⟩, channel⟩, rfl⟩
    · have hb := (bay_ne_zero_iff _).mpr low
      rw [if_neg (station_ne_root station), if_neg hb, if_pos node]
      exact ⟨⟨.inr ⟨station, bay, .inl node, .inl channel⟩, channel⟩, rfl⟩
    · have hb := (bay_ne_zero_iff _).mpr low
      have hn : p.node ≠ 0xFF := by
        intro e
        rw [e] at node
        exact absurd node (by decide)
      rw [if_neg (station_ne_root station), if_neg hb, if_neg hn]
      exact ⟨⟨.inr ⟨station, bay, .inr ⟨node, hb⟩, .inl channel⟩, channel⟩, rfl⟩

/-- Check 1 of TOPO-PUT (R58). -/
theorem putFormOk_iff (w : Window) : putFormOk w = true ↔
    ((w.argPath 0).configurable = true ∧ w.argAt 4 = (w.argPath 0).level.code)
      ∧ (w.argAt 6).toNat ≤ 62 ∧ (w.argAt 7).toNat ≤ 15 := by
  unfold putFormOk LocPath.configurable
  simp only [Bool.and_eq_true, decide_eq_true_eq, beq_iff_eq, Level.ofByte_eq_some, and_assoc]

/-! ## The checks in their order -/

section
variable {w : Window} {staged : List Staged}

theorem putCheck_malformed (h : putFormOk w = false) :
    putCheck w staged = (Result.badArgument, 0) := by
  unfold putCheck
  rw [h]
  rfl

variable (formed : putFormOk w = true)
include formed

theorem putCheck_duplicate {i : Nat} (h : stagedIndex staged (w.argPath 0) = some i) :
    putCheck w staged = (Result.duplicatePath, i) := by
  unfold putCheck
  rw [if_pos formed, h]

variable (fresh : stagedIndex staged (w.argPath 0) = none)
include fresh

theorem putCheck_orphan (h : stagedIndex staged (w.argPath 0).parent = none) :
    putCheck w staged = (Result.noParent, 0) := by
  unfold putCheck
  rw [if_pos formed, fresh]
  dsimp only
  rw [h]

variable {k : Nat} (parent : stagedIndex staged (w.argPath 0).parent = some k)
include parent

theorem putCheck_parent : putCheck w staged = if Config.stageCapacity ≤ staged.length then
      (Result.capacity, 0)
    else if w.argAt 6 = 0 then (Result.ok, staged.length)
    else putAgentCheck staged (w.argAt 6) (w.argPath 0).level := by
  unfold putCheck
  rw [if_pos formed, fresh]
  dsimp only
  rw [parent]

theorem putCheck_full (h : 320 ≤ staged.length) :
    putCheck w staged = (Result.capacity, 0) := by
  rw [putCheck_parent formed fresh parent]
  exact if_pos h

variable (room : staged.length < 320)
include room

theorem putCheck_agentless (h : w.argAt 6 = 0) :
    putCheck w staged = (Result.ok, staged.length) := by
  rw [putCheck_parent formed fresh parent, if_neg (show ¬ Config.stageCapacity ≤ _ from
    Nat.not_le.mpr room), if_pos h]

theorem putCheck_agent (h : w.argAt 6 ≠ 0) :
    putCheck w staged = putAgentCheck staged (w.argAt 6) (w.argPath 0).level := by
  rw [putCheck_parent formed fresh parent, if_neg (show ¬ Config.stageCapacity ≤ _ from
    Nat.not_le.mpr room), if_neg h]

end

section
variable {staged : List Staged} {agent : Byte} {level : Level}

theorem putAgentCheck_clash {i : Nat} (h : staged.findIdx? (·.agent == agent) = some i) :
    putAgentCheck staged agent level = (Result.agentClash, i) := by
  unfold putAgentCheck
  rw [h]

variable (new : staged.findIdx? (·.agent == agent) = none)
include new

theorem putAgentCheck_limit (h : 24 ≤ stagedAgents staged) :
    putAgentCheck staged agent level = (Result.agentLimit, 0) := by
  unfold putAgentCheck
  rw [new]
  exact if_pos h

theorem putAgentCheck_room (h : stagedAgents staged < 24) : putAgentCheck staged agent level
    = if level = .station ∨ level = .bay then (Result.ok, staged.length)
      else (Result.badArgument, 0) := by
  unfold putAgentCheck
  rw [new]
  exact if_neg (Nat.not_le.mpr h)

end

/-- A record that joins staging has a configurable path that is new there, and no address that is
held there (R58). -/
theorem putCheck_ok {w : Window} {staged : List Staged} (h : (putCheck w staged).1 = Result.ok) :
    (w.argPath 0).configurable = true ∧ (∀ x ∈ staged, x.path ≠ w.argPath 0)
      ∧ (w.argAt 6 = 0 ∨ ∀ x ∈ staged, x.agent ≠ w.argAt 6) := by
  cases formed : putFormOk w with
  | false =>
    rw [putCheck_malformed formed] at h
    exact absurd h (by decide)
  | true =>
    obtain ⟨⟨path, _⟩, _⟩ := (putFormOk_iff w).mp formed
    cases fresh : stagedIndex staged (w.argPath 0) with
    | some i =>
      rw [putCheck_duplicate formed fresh] at h
      exact absurd h (show Result.duplicatePath ≠ Result.ok by decide)
    | none =>
      have new : ∀ x ∈ staged, x.path ≠ w.argPath 0 := fun x hx => by
        simpa using List.findIdx?_eq_none_iff.mp fresh x hx
      refine ⟨path, new, or_iff_not_imp_left.mpr fun agent => ?_⟩
      cases parent : stagedIndex staged (w.argPath 0).parent with
      | none =>
        rw [putCheck_orphan formed fresh parent] at h
        exact absurd h (by decide)
      | some k =>
        rw [putCheck_parent formed fresh parent, if_neg agent] at h
        split at h
        · exact absurd h (by decide)
        · cases clash : staged.findIdx? (·.agent == w.argAt 6) with
          | some i =>
            rw [putAgentCheck_clash clash] at h
            exact absurd h (show Result.agentClash ≠ Result.ok by decide)
          | none => exact fun x hx => by simpa using List.findIdx?_eq_none_iff.mp clash x hx

/-! ## The answer -/

theorem exec_topoBegin (s : State) (h : s.takes) :
    exec .topoBegin s = .next (workTopoBegin (s.taken 0x10)) :=
  congrArg Host.Outcome.next (giveCommand_takes 0x10 workTopoBegin s h)

theorem exec_topoPut (s : State) (h : s.takes) :
    exec .topoPut s = .next (workTopoPut (s.taken 0x11)) :=
  congrArg Host.Outcome.next (giveCommand_takes 0x11 workTopoPut s h)

/-- A TOPO-PUT that a check refuses leaves staging as it was (R58, R59). -/
theorem topoPut_refused (s : State) (h : s.takes) {result : Byte} {index : Nat}
    (check : putCheck s.arguments s.topo.staged = (result, index)) (refused : result ≠ Result.ok) :
    exec .topoPut s = .next (s.completed 0x11 result (putResponse index s.topo.staged)) := by
  have read : putCheck (s.taken 0x11).window (s.taken 0x11).topo.staged = (result, index) := check
  rw [exec_topoPut s h]
  unfold workTopoPut
  simp only [read, if_neg refused]
  rfl

/-- A TOPO-PUT past every check appends its record (R58, R59). -/
theorem topoPut_accepted (s : State) (h : s.takes)
    (check : putCheck s.arguments s.topo.staged = (Result.ok, s.topo.staged.length)) :
    exec .topoPut s = .next
      { s.completed 0x11 0x00 (putResponse s.topo.staged.length
          (s.topo.staged ++ [putRecord s.arguments s.topo.staged])) with
        topo.staged := s.topo.staged ++ [putRecord s.arguments s.topo.staged] } := by
  have read : putCheck (s.taken 0x11).window (s.taken 0x11).topo.staged
    = (Result.ok, s.topo.staged.length) := check
  rw [exec_topoPut s h]
  unfold workTopoPut
  simp only [read, if_true]
  rfl

/-- Settles O13, by the checks of R58 in their order. -/
theorem stagingCommandsAnswer : Obligations.StagingCommandsAnswer := by
  unfold Obligations.StagingCommandsAnswer
  refine ⟨fun s takes => exec_topoBegin s takes, ?_⟩
  intro s station bay node channel level formed agents answer takes hagents hanswer path hlevel
    hformed
  obtain rfl : agents = stagedAgents := funext hagents
  obtain rfl : answer = putResponse := funext fun i => funext (hanswer i)
  subst hlevel
  have form : formed ↔ putFormOk s.arguments = true := by
    rw [putFormOk_iff, configurable_level_iff, path, hformed]
    exact ⟨fun ⟨channel, agent, limit, forms⟩ => ⟨⟨channel, forms⟩, agent, limit⟩,
      fun ⟨⟨channel, forms⟩, agent, limit⟩ => ⟨channel, agent, limit, forms⟩⟩
  refine ⟨fun malformed => topoPut_refused s takes (putCheck_malformed ?_) (by decide),
    fun wellFormed => ?_⟩
  · exact Bool.eq_false_iff.mpr (mt form.mpr malformed)
  have ok := form.mp wellFormed
  refine ⟨fun i duplicate => topoPut_refused s takes (putCheck_duplicate ok duplicate) (by decide),
    fun fresh => ⟨fun orphan => topoPut_refused s takes (putCheck_orphan ok fresh orphan)
      (by decide), fun k parent => ⟨fun full => topoPut_refused s takes
        (putCheck_full ok fresh parent full) (by decide), fun room => ?_⟩⟩⟩
  have agentCheck := putCheck_agent ok fresh parent room
  refine ⟨fun i agent clash => ?_, fun agent new limit => ?_,
    fun agent new below station bay => ?_, fun accepted staged hstaged => ?_⟩
  · exact topoPut_refused s takes ((agentCheck agent).trans (putAgentCheck_clash clash)) (by decide)
  · exact topoPut_refused s takes ((agentCheck agent).trans (putAgentCheck_limit new limit))
      (by decide)
  · refine topoPut_refused s takes ((agentCheck agent).trans ?_) (by decide)
    rw [putAgentCheck_room new below, if_neg (not_or.mpr ⟨station, bay⟩)]
    rfl
  · have record : staged = s.topo.staged ++ [putRecord s.arguments s.topo.staged] := by
      rw [hstaged]
      unfold putRecord
      rw [parent]
      rfl
    rw [record]
    refine topoPut_accepted s takes ?_
    by_cases agent : s.arguments.argAt 6 = 0
    · exact putCheck_agentless ok fresh parent room agent
    · obtain ⟨new, below, level⟩ := accepted.resolve_left agent
      rw [agentCheck agent, putAgentCheck_room new below, if_pos level]

end Sys2Proof.Machine

/-!
What each step can do to the map, the staging area and the report link beside the table: a chain of
few kinds of shift, found once for every row, so that a law of the map or of the link is kept by
every step once each kind of shift keeps it.
-/

namespace Sys2Proof.Machine

/-! ## Shifts of the state -/

/-- One shift of the state, by what it does to the table, the map, the staging area and the link: a
step of the link alone; the work of a request; entries and records relabelled beside the counts; a
staging command (R57, R58); the map installed (R63); cold reset. -/
inductive Shift (s t : State) : Prop where
  | linked (h : LinkShift s t)
  | worked (w : Work) (changes : (taking s).Reserved → Work.Changes (taking s) w)
      (records : Work.Records (taking s) w) (slots : t.engine.slots = w.slots)
      (locs : t.topo.locs = w.locs) (staged : t.topo.staged = s.topo.staged)
      (link : t.link = s.link)
  | relabelled (h : Entry → Entry) (key : ∀ e, (h e).key = e.key)
      (counted : ∀ e, (h e).state = e.state ∧ (h e).anchor = e.anchor)
      (slots : t.engine.slots = s.engine.slots.map (Slot.relabel h))
      (tally : t.topo.locs.map Location.tally = s.topo.locs.map Location.tally)
      (records : SameRecords s.topo.locs t.topo.locs) (staged : t.topo.staged = s.topo.staged)
      (link : t.link = s.link)
  | staging (slots : t.engine.slots = s.engine.slots) (locs : t.topo.locs = s.topo.locs)
      (staged : t.topo.staged = [Staged.root]
        ∨ ∃ w : Window, (putCheck w s.topo.staged).1 = Result.ok
          ∧ t.topo.staged = s.topo.staged ++ [putRecord w s.topo.staged])
      (link : t.link = s.link)
  | committed (slots : t.engine.slots = s.engine.slots.map (Slot.relabel Entry.toRoot))
      (locs : t.topo.locs
        = installMap s.topo.staged (countEntries t.engine.slots (·.state.active)))
      (staged : t.topo.staged = [Staged.root]) (link : t.link = s.link.atCommit)
  | reset (slots : t.engine.slots = State.reset.engine.slots)
      (locs : t.topo.locs = State.reset.topo.locs)
      (staged : t.topo.staged = State.reset.topo.staged) (link : t.link = State.reset.link)

/-- A chain of shifts. -/
abbrev Shifts : State → State → Prop := Relation.ReflTransGen Shift

theorem Shifts.of_link {s t : State} (h : LinkShift s t) : Shifts s t := .single (.linked h)

/-- A step that leaves the table, the map and the link. -/
theorem Shifts.of_same {s t : State} (map : SameMap s t) (link : t.link = s.link) : Shifts s t :=
  .of_link (.of_same map link)

/-- A request whose work is handed off (R16). -/
theorem handOff_shifts (s : State) (w : Work)
    (changes : (taking s).Reserved → Work.Changes (taking s) w)
    (records : Work.Records (taking s) w) : Shifts s (handOff s w) :=
  .single (.worked w changes records rfl rfl rfl rfl)

/-- A request that creates nothing and moves the counts alone, handed off. -/
theorem handOff_eased (s : State) (w : Work) (eases : Work.Eases (taking s) w)
    (silent : Work.Silent (taking s) w) : Shifts s (handOff s w) :=
  handOff_shifts s w (fun _ => Work.changes_of_eases eases) silent.steady.records

/-! ## Commands -/

theorem csnRise_shifts (s : State) : Shifts s (csnRise s) := .of_same (by constructor <;> rfl) rfl

theorem completed_shifts (result : Byte) (response : List Byte) (s : State) :
    Shifts s (complete result response s) := .of_same (by constructor <;> rfl) rfl

/-- A command completed on a state that shifts leave. -/
theorem Shifts.complete {s u : State} (h : Shifts s u) (result : Byte) (response : List Byte) :
    Shifts s (complete result response u) := h.trans (completed_shifts result response u)

/-- A command shifts the state as its owner does, or not at all. -/
theorem giveCommand_shifts (code : Byte) (owner : State → State) (s : State)
    (h : ∀ u, Shifts u (owner u)) : Shifts s (giveCommand code owner s) := by
  unfold giveCommand
  split
  · exact csnRise_shifts s
  · split
    · exact .of_same (by constructor <;> rfl) rfl
    · have taken : Shifts s (takeCommand code (csnRise s)) :=
        .of_same (by constructor <;> rfl) rfl
      exact taken.trans (h _)

/-- A window request at its grant: its work, after the grant's own marks. -/
theorem grantedWork_shifts (work : State → State) (s : State) (h : ∀ u, Shifts u (work u)) :
    Shifts s (work { granted .window s with window.waiting := false }) := by
  have marked : Shifts s { granted .window s with window.waiting := false } :=
    .of_same (by constructor <;> rfl) rfl
  exact marked.trans (h _)

theorem waiting_shifts (s : State) (b : Bool) : Shifts s { s with window.waiting := b } :=
  .of_same (by constructor <;> rfl) rfl

theorem request_shifts (code : Byte) (engine : EngineAt) (work : State → State) (s : State)
    (h : ∀ u, Shifts u (work u)) : Shifts s (giveCommand code (presentRequest engine work) s) := by
  refine giveCommand_shifts code _ s fun u => ?_
  unfold presentRequest
  dsimp only
  split
  · exact (waiting_shifts u true).trans (grantedWork_shifts work _ h)
  · exact waiting_shifts u true

theorem expireIfDue_shifts (s : State) : Shifts s (expireIfDue s) := by
  unfold expireIfDue
  split
  · exact .of_same (by constructor <;> rfl) rfl
  · exact .refl

/-! ### Acknowledging and clearing -/

theorem workAck_shifts (s : State) : Shifts s (workAck s) := by
  unfold workAck
  dsimp only
  split
  · exact completed_shifts _ _ s
  · split
    · exact completed_shifts _ _ s
    · next i e h =>
      obtain ⟨_, found, _⟩ := handleEntry_some _ _ _ _ _ h
      exact (handOff_eased s _ (Work.ackEntry_eases (taking s) i e found)
        (Work.ackEntry_silent (taking s) i e)).complete _ _

theorem workAckAll_shifts (s : State) : Shifts s (workAckAll s) := by
  unfold workAckAll
  dsimp only
  split
  · exact (handOff_eased s _ (ackAll_eases _ _) (ackAll_silent _ _)).complete _ _
  · exact completed_shifts _ _ s

theorem workClearDomain_shifts (s : State) : Shifts s (workClearDomain s) := by
  unfold workClearDomain
  split
  · exact completed_shifts _ _ s
  · exact waiting_shifts s true

theorem clearMarks_tally (locs : List Location) (d : Domain) :
    (clearMarks locs d).map Location.tally = locs.map Location.tally := by
  unfold clearMarks
  rw [List.map_map]
  exact List.map_congr_left fun l _ => by cases d <;> rfl

theorem Entry.markFor_counted (d : Domain) (bound : Nat) (e : Entry) :
    (e.markFor d bound).state = e.state ∧ (e.markFor d bound).anchor = e.anchor := by
  unfold Entry.markFor
  split <;> exact ⟨rfl, rfl⟩

theorem workSweepStart_shifts (s : State) : Shifts s (workSweepStart s) := by
  unfold workSweepStart
  split
  · exact .refl
  · next d _ =>
    exact .single (.relabelled (Entry.markFor d (s.engine.seqNext - 1))
      (Entry.label_markFor d _).key (Entry.markFor_counted d _) rfl (clearMarks_tally _ d)
      (.of_plain (clearMarks_plain _ d)) rfl rfl)

theorem workSweepStep_shifts (sw : Sweep) (s : State) : Shifts s (workSweepStep sw s) := by
  have visits := handOff_eased s _ (Work.sweepVisits_eases (taking s) (stepIndices sw.next))
    ((taking s).sweepVisits_silent sw.next)
  unfold workSweepStep
  dsimp only
  split
  · exact visits.trans (Shifts.of_same (by constructor <;> rfl) rfl)
  · exact visits.trans (Shifts.of_same (by constructor <;> rfl) rfl)

/-! ### The controller's own conditions, WARM-RESTART -/

theorem workRaiseApp_shifts (s : State) : Shifts s (workRaiseApp s) := by
  unfold workRaiseApp
  dsimp only
  split
  · exact (handOff_shifts s _ (Work.raise_changes _ _) (Work.raise_records _ _)).complete _ _
  · exact completed_shifts _ _ s

theorem workRestoreApp_shifts (s : State) : Shifts s (workRestoreApp s) := by
  unfold workRestoreApp
  dsimp only
  split
  · exact (handOff_eased s _ (Work.restore_eases _ _) (Work.restore_silent _ _)).complete _ _
  · exact completed_shifts _ _ s

theorem restart_tally (locs : List Location) :
    (locs.mapIdx Location.restart).map Location.tally = locs.map Location.tally := by
  refine List.ext_getElem (by simp) fun n h1 h2 => ?_
  simp [Location.restart, Location.tally]

/-- WARM-RESTART makes every presence UNVERIFIED but the root's (R68). -/
theorem restart_records (locs : List Location) :
    SameRecords locs (locs.mapIdx Location.restart) := by
  refine ⟨List.ext_getElem (by simp) fun n h1 h2 => ?_, ?_⟩
  · simp [Location.restart, Location.given, Location.plain, Location.uncounted]
  · unfold presenceAt
    rw [List.getElem?_mapIdx]
    cases locs[0]? <;> rfl

/-- The state between the retirements of a request and the rest of its work. -/
def State.withTable (s : State) (w : Work) : State :=
  { s with engine.slots := w.slots, topo.locs := w.locs }

theorem withTable_shifts (s : State) (w : Work) (eases : Work.Eases (taking s) w)
    (silent : Work.Silent (taking s) w) : Shifts s (s.withTable w) :=
  .single (.worked w (fun _ => Work.changes_of_eases eases) silent.steady.records rfl rfl rfl rfl)

/-- What WARM-RESTART does after its retirements: the link (R124), the sweep marks (R29), and the
presences and marks of the map (R68). -/
theorem warmRestarted_shifts (s : State) (w w' : Work)
    (slots : w'.slots = w.slots.map Slot.unmark)
    (locs : w'.locs = w.locs.mapIdx Location.restart) :
    Shifts (s.withTable w) (s.warmRestarted w') := by
  have link : LinkShift (s.withTable w)
      { s.withTable w with link := s.link.restart (s.topo.state == .loaded) } :=
    .of_link (by constructor <;> rfl) (Link.restart_laws _)
  have topo := warmRestarted_topo s w'
  refine (Shifts.of_link link).tail (.relabelled Entry.unmark (fun _ => rfl)
    (fun _ => ⟨rfl, rfl⟩) ?_ ?_ ?_ ?_ (warmRestarted_link s w'))
  · rw [warmRestarted_engine]
    exact slots
  · rw [topo]
    show w'.locs.map _ = w.locs.map _
    rw [locs, restart_tally]
  · rw [topo]
    show SameRecords w.locs w'.locs
    rw [locs]
    exact restart_records w.locs
  · rw [topo]
    rfl

theorem workWarmRestart_shifts (s : State) : Shifts s (workWarmRestart s) := by
  obtain ⟨slots, locs, _⟩ := (taking s).warmRestart_eq
  rw [workWarmRestart_eq]
  exact (withTable_shifts s _ (Work.retireUnlatched_eases (taking s))
    (taking s).retireUnlatched_silent).trans (warmRestarted_shifts s _ _ slots locs)

theorem finishRestart_shifts (r : Restart) (s : State) : Shifts s (finishRestart r s) := by
  unfold finishRestart
  dsimp only
  split
  · exact .of_same (by constructor <;> rfl) rfl
  · exact .of_same (by constructor <;> rfl) rfl

/-! ### Reading -/

theorem workLookup_shifts (s : State) : Shifts s (workLookup s) := by
  unfold workLookup
  dsimp only
  split
  · exact completed_shifts _ _ s
  · exact completed_shifts _ _ s

theorem workGet_shifts (s : State) : Shifts s (workGet s) := by
  unfold workGet
  split
  · exact completed_shifts _ _ s
  · split
    · exact completed_shifts _ _ s
    · exact completed_shifts _ _ s

theorem cursor_shifts (n : Byte) (c : Cursor) (result : Byte) (response : List Byte) (s : State) :
    Shifts s (complete result response (setCursor n c s)) := .of_same (by constructor <;> rfl) rfl

theorem workListOpen_shifts (s : State) : Shifts s (workListOpen s) := by
  unfold workListOpen
  split
  · exact cursor_shifts _ _ _ _ s
  · exact completed_shifts _ _ s

theorem nextMatch_shifts (n : Byte) (c : Cursor) (s : State) : Shifts s (nextMatch n c s) := by
  unfold nextMatch
  split
  · split
    · exact cursor_shifts _ _ _ _ s
    · exact .refl
  · exact cursor_shifts _ _ _ _ s

theorem workListNext_shifts (s : State) : Shifts s (workListNext s) := by
  unfold workListNext
  dsimp only
  split
  · exact completed_shifts _ _ s
  · split
    · exact completed_shifts _ _ s
    · exact nextMatch_shifts _ _ s
    · exact completed_shifts _ _ s

theorem workListClose_shifts (s : State) : Shifts s (workListClose s) := by
  unfold workListClose
  dsimp only
  split
  · exact completed_shifts _ _ s
  · exact cursor_shifts _ _ _ _ s

theorem workAgentInfo_shifts (s : State) : Shifts s (workAgentInfo s) := by
  unfold workAgentInfo
  dsimp only
  split
  · exact completed_shifts _ _ s
  · split
    · exact completed_shifts _ _ s
    · exact completed_shifts _ _ s

/-! ### Configuration, staging and release -/

theorem workGroupSet_shifts (s : State) : Shifts s (workGroupSet s) := by
  unfold workGroupSet
  dsimp only
  split
  · exact completed_shifts _ _ s
  · split
    · exact completed_shifts _ _ s
    · split
      · exact completed_shifts _ _ s
      · split
        · exact .of_same (by constructor <;> rfl) rfl
        · exact completed_shifts _ _ s

theorem writeLimits_shifts (l : Limits) (s : State) : Shifts s (writeLimits l s) := by
  have written : Shifts s { s with limits := l } := .of_same (by constructor <;> rfl) rfl
  unfold writeLimits
  dsimp only
  split
  · exact written.trans (handOff_eased { s with limits := l } _ .refl (.refl _))
  · exact written.trans (handOff_eased { s with limits := l } _ (Work.hysteresisOf_eases _ _)
      (Work.hysteresisOf_silent _ _))

theorem workSetLimits_shifts (s : State) : Shifts s (workSetLimits s) := by
  unfold workSetLimits
  dsimp only
  split
  · exact (Shifts.complete ((expireIfDue_shifts s).trans (writeLimits_shifts _ _)) _ _).trans
      (expireIfDue_shifts _)
  · exact completed_shifts _ _ s

theorem workSetStamp_shifts (s : State) : Shifts s (workSetStamp s) := by
  have loaded : Shifts (expireIfDue s)
      { expireIfDue s with clock := stampArgument s.window } :=
    .of_same (by constructor <;> rfl) rfl
  exact (Shifts.complete ((expireIfDue_shifts s).trans loaded) _ _).trans (expireIfDue_shifts _)

theorem workTopoBegin_shifts (s : State) : Shifts s (workTopoBegin s) :=
  .single (.staging rfl rfl (.inl rfl) rfl)

theorem workTopoPut_shifts (s : State) : Shifts s (workTopoPut s) := by
  unfold workTopoPut
  dsimp only
  split
  · next ok => exact .single (.staging rfl rfl (.inr ⟨s.window, ok, rfl⟩) rfl)
  · exact completed_shifts _ _ s

theorem commitWork_shifts (s : State) : Shifts s (commitWork s) := by
  have retired := withTable_shifts s _ (Work.retireField_eases (taking s))
    (taking s).retireField_silent
  rw [commitWork_eq, committed_eq]
  generalize (taking s).retireField = w at *
  exact retired.tail (.committed rfl rfl rfl rfl)

theorem workTopoCommit_shifts (s : State) : Shifts s (workTopoCommit s) := by
  unfold workTopoCommit
  split
  · exact completed_shifts _ _ s
  · split
    · exact completed_shifts _ _ s
    · exact commitWork_shifts s

/-- The end of a commit rebuilds the roster and leaves the map (R64). -/
theorem workCommitComplete_shift (s : State) : LinkShift s (workCommitComplete s) := by
  have map : SameMap s (workCommitComplete s) := by constructor <;> rfl
  refine ⟨map, fun h => ?_⟩
  obtain ⟨_, lined, staged, locs⟩ := (linkLaw_iff s).mp h
  obtain ⟨queued', lined'⟩ := Link.rebuilt_laws s.topo.locs locs lined
  exact (linkLaw_iff _).mpr ⟨queued', lined', map.staged ▸ staged, map.locs ▸ locs⟩

theorem workSetMode_shifts (s : State) : Shifts s (workSetMode s) := by
  unfold workSetMode
  dsimp only
  split
  · exact .of_same (by constructor <;> rfl) rfl
  · exact completed_shifts _ _ s

theorem workGrant_shifts (s : State) : Shifts s (workGrant s) := by
  unfold workGrant
  dsimp only
  split
  · exact .of_same (by constructor <;> rfl) rfl
  · exact completed_shifts _ _ s

theorem windowWork_shifts (code : Byte) (s : State) : Shifts s (windowWork code s) := by
  unfold windowWork
  split
  · exact workTopoCommit_shifts s
  · exact workSetLimits_shifts s
  · exact workLookup_shifts s
  · exact workGet_shifts s
  · exact workListOpen_shifts s
  · exact workListNext_shifts s
  · exact workListClose_shifts s
  · exact workAck_shifts s
  · exact workAckAll_shifts s
  · exact workSweepStart_shifts s
  · exact workRaiseApp_shifts s
  · exact workRestoreApp_shifts s
  · exact workWarmRestart_shifts s
  · exact .refl

/-! ## Reports and part entries -/

theorem granted_shifts (src : Source) (s : State) : Shifts s (granted src s) :=
  .of_same (by constructor <;> rfl) rfl

/-- A report entry at the head of the queue, answered with its work handed off (R118). -/
theorem answerWith_shifts {s : State} {r : Report} {rest : List LinkEntry}
    (head : s.link.queue = .report r :: rest) (refusal : Option Verdict)
    (work : Work → Work × Verdict)
    (changes : (taking s).Reserved → Work.Changes (taking s) (work (taking s)).1)
    (records : Work.Records (taking s) (work (taking s)).1) :
    Shifts s (answerWith s r refusal work) := by
  unfold answerWith
  split
  · exact .of_link (answerReport_shift head _)
  · exact (handOff_shifts s _ changes records).trans
      (Shifts.of_link (answerReport_shift (s := handOff s (work (taking s)).1) head _))

theorem reportStep_shifts (kind : Byte) (work : Report → State → State) (s : State)
    (h : ∀ r rest u, u.link.queue = .report r :: rest → Shifts u (work r u)) :
    Shifts s (reportStep kind work s) := by
  unfold reportStep
  split
  · next r rest head =>
    split
    · exact (granted_shifts .link s).trans (h r rest _ head)
    · exact .refl
  · exact .refl
  · exact .refl

theorem grantedPart_shifts {s : State} {a : Byte} {linkCode : Option Byte} {lapse : Bool}
    {rest : List LinkEntry} (head : s.link.queue = .part a linkCode lapse :: rest) :
    Shifts s (workPart a linkCode lapse (granted .link s)) :=
  ((granted_shifts .link s).trans (handOff_shifts _ _
    (Work.partWork_changes _ _ _ linkCode lapse)
    (Work.partWork_records _ _ _ linkCode lapse))).trans
      (Shifts.of_link (dequeue_shift head rfl))

theorem workVerifyExpiry_shifts (s : State) : Shifts s (workVerifyExpiry s) :=
  handOff_shifts s _ (Work.raiseSilent_changes _ _) (Work.raiseSilent_steady _ _).records

/-! ## Window bytes and cold reset -/

theorem writeAt_shifts (address : BitVec 7) (value : Byte) (s : State) :
    Shifts s (writeAt address value s) := by
  unfold writeAt
  split
  · exact .of_same (by constructor <;> rfl) rfl
  · split
    · exact .of_same (by constructor <;> rfl) rfl
    · split
      · exact .of_same (by constructor <;> rfl) rfl
      · exact .refl

theorem port_shifts (s : State) (p : Port) : Shifts s { s with port := p } :=
  .of_same (by constructor <;> rfl) rfl

theorem applyByte_shifts (address : BitVec 7) (value : Byte) (s : State) :
    Shifts s (applyByte address value s) := by
  unfold applyByte
  split
  · exact (writeAt_shifts address value s).trans (port_shifts _ _)
  · exact .refl

theorem writeByte_shifts (address : BitVec 7) (b : DataByte) (s : State) :
    Shifts s (writeByte address b s) := by
  unfold writeByte
  split
  · have opened : Shifts s
        (if b.csn.opens then { csnRise s with port := .writing address none } else s) := by
      split
      · exact .of_same (by constructor <;> rfl) rfl
      · exact .refl
    have applied := opened.trans (applyByte_shifts address b.value _)
    dsimp only
    split
    · exact applied.trans (csnRise_shifts _)
    · exact applied
  · split
    · exact csnRise_shifts s
    · split
      · exact port_shifts s _
      · exact .refl

theorem coldReset_shift (s : State) : Shift s (coldReset s) := .reset rfl rfl rfl rfl

theorem sampleReset_shifts (s : State) : Shifts s (sampleReset s) := by
  unfold sampleReset
  split
  · exact .refl
  · split
    · exact .single (coldReset_shift s)
    · split
      · exact .refl
      · exact .of_same (by constructor <;> rfl) rfl

theorem inputs_shifts (s : State) (low power clk : Bool) (p : Port) : Shifts s
    { s with resetnLow := low, poweringUp := power, clkPresent := clk, port := p } :=
  .of_same (by constructor <;> rfl) rfl

theorem sampleInputs_shifts (s : State) (low power clk : Bool) (p : Port) :
    Shifts s (sampleReset
      { s with resetnLow := low, poweringUp := power, clkPresent := clk, port := p }) :=
  (inputs_shifts s low power clk p).trans (sampleReset_shifts _)

/-! ## Every row -/

/-- A step that has its effect only under a condition. -/
theorem if_shifts (c : Prop) [Decidable c] (s t : State) (h : c → Shifts s t) :
    Shifts s (if c then t else s) := by
  split
  · next hc => exact h hc
  · exact .refl

theorem execSweepStep_shifts (s : State) : ∃ t, execSweepStep s = .next t ∧ Shifts s t := by
  refine ⟨_, rfl, ?_⟩
  split
  · exact .refl
  · exact if_shifts _ _ _ fun _ => workSweepStep_shifts _ s

theorem execWarmRestartComplete_shifts (part : RestartEnd) (s : State) :
    ∃ t, execWarmRestartComplete part s = .next t ∧ Shifts s t := by
  refine ⟨_, rfl, ?_⟩
  split
  · split
    · exact .refl
    · exact .of_same (by constructor <;> rfl) rfl
  · exact finishRestart_shifts _ s
  · exact .refl

theorem execBadCommand_shifts (code : Byte) (s : State) :
    ∃ t, execBadCommand code s = .next t ∧ Shifts s t := by
  refine ⟨_, rfl, ?_⟩
  split
  · exact .refl
  · exact giveCommand_shifts _ _ s fun u => completed_shifts _ _ u

theorem execColdReset_shifts (cause : ResetCause) (s : State) :
    ∃ t, execColdReset cause s = .next t ∧ Shifts s t := by
  cases cause with
  | resetn => exact ⟨_, rfl, sampleInputs_shifts s true s.poweringUp s.clkPresent _⟩
  | powerUp =>
    exact ⟨_, rfl, (inputs_shifts s s.resetnLow true s.clkPresent s.port).tail (coldReset_shift _)⟩

theorem execVerifyExpiryRequest_shifts (s : State) :
    ∃ t, execVerifyExpiryRequest s = .next t ∧ Shifts s t := by
  have marked : Shifts s { granted .verify s with topo.verify.waiting := false } :=
    .of_same (by constructor <;> rfl) rfl
  exact ⟨_, rfl, if_shifts _ _ _ fun _ => marked.trans (workVerifyExpiry_shifts _)⟩

theorem execRoundStart_shifts (s : State) : ∃ t, execRoundStart s = .next t ∧ Shifts s t := by
  refine ⟨_, rfl, if_shifts _ _ _ fun starts => .of_link (roundStart_shift ?_)⟩
  simp only [Bool.and_eq_true] at starts
  exact starts.2

theorem execPoll_shifts (s : State) : ∃ t, execPoll s = .next t ∧ Shifts s t := by
  refine ⟨_, rfl, if_shifts _ _ _ fun _ => ?_⟩
  split
  · next sending => exact .of_link (pollSent_shift sending)
  · exact if_shifts _ _ _ fun due => .of_link (sendPoll_shift due)

theorem execReplyJudge_shifts (stop : Bool) (bytes : List Byte) (s : State) :
    ∃ t, execReplyJudge stop bytes s = .next t ∧ Shifts s t := by
  refine ⟨_, rfl, if_shifts _ _ _ fun _ => .of_link ?_⟩
  split
  · exact discardBytes_shift bytes s
  · next x hx =>
    split
    · exact discardBytes_shift bytes s
    · next unjudged => exact workReplyJudge_shift stop bytes hx (Bool.eq_false_iff.mpr unjudged)

theorem execReplyWindowClose_shifts (s : State) :
    ∃ t, execReplyWindowClose s = .next t ∧ Shifts s t := by
  refine ⟨_, rfl, ?_⟩
  split
  · exact .refl
  · next x hx =>
    refine if_shifts _ _ _ fun awaited => .of_link (workReplyWindowClose_shift hx ?_)
    simp only [Bool.and_eq_true, Bool.not_eq_true'] at awaited
    exact awaited.2

theorem execLapseRequest_shifts (s : State) :
    ∃ t, execLapseRequest s = .next t ∧ Shifts s t := by
  refine ⟨_, rfl, ?_⟩
  split
  · next head => exact if_shifts _ _ _ fun _ => grantedPart_shifts head
  · exact .refl
  · exact .refl

theorem execLinkRaise_shifts (s : State) : ∃ t, execLinkRaise s = .next t ∧ Shifts s t := by
  refine ⟨_, rfl, ?_⟩
  split
  · next head => exact if_shifts _ _ _ fun _ => grantedPart_shifts head
  · exact .refl
  · exact .refl

/-- Every step answers a next state, which shifts lead to. -/
theorem exec_shifts (i : Instr) (s : State) : ∃ t, exec i s = .next t ∧ Shifts s t := by
  cases i with
  | topoBegin => exact ⟨_, rfl, giveCommand_shifts _ _ s workTopoBegin_shifts⟩
  | topoPut => exact ⟨_, rfl, giveCommand_shifts _ _ s workTopoPut_shifts⟩
  | topoCommit engine => exact ⟨_, rfl, request_shifts _ engine _ s workTopoCommit_shifts⟩
  | commitComplete =>
    exact ⟨_, rfl, if_shifts _ _ _ fun _ => .of_link (workCommitComplete_shift s)⟩
  | groupSet => exact ⟨_, rfl, giveCommand_shifts _ _ s workGroupSet_shifts⟩
  | setLimits engine => exact ⟨_, rfl, request_shifts _ engine _ s workSetLimits_shifts⟩
  | setStamp => exact ⟨_, rfl, giveCommand_shifts _ _ s workSetStamp_shifts⟩
  | setMode => exact ⟨_, rfl, giveCommand_shifts _ _ s workSetMode_shifts⟩
  | grant => exact ⟨_, rfl, giveCommand_shifts _ _ s workGrant_shifts⟩
  | lookup engine => exact ⟨_, rfl, request_shifts _ engine _ s workLookup_shifts⟩
  | get engine => exact ⟨_, rfl, request_shifts _ engine _ s workGet_shifts⟩
  | listOpen engine => exact ⟨_, rfl, request_shifts _ engine _ s workListOpen_shifts⟩
  | listNext engine => exact ⟨_, rfl, request_shifts _ engine _ s workListNext_shifts⟩
  | listClose engine => exact ⟨_, rfl, request_shifts _ engine _ s workListClose_shifts⟩
  | agentInfo => exact ⟨_, rfl, giveCommand_shifts _ _ s workAgentInfo_shifts⟩
  | ack engine => exact ⟨_, rfl, request_shifts _ engine _ s workAck_shifts⟩
  | ackAll engine => exact ⟨_, rfl, request_shifts _ engine _ s workAckAll_shifts⟩
  | clearDomain => exact ⟨_, rfl, giveCommand_shifts _ _ s workClearDomain_shifts⟩
  | sweepStart =>
    exact ⟨_, rfl, if_shifts _ _ _ fun _ => grantedWork_shifts _ s workSweepStart_shifts⟩
  | sweepStep => exact execSweepStep_shifts s
  | clearSummary =>
    exact ⟨_, rfl, giveCommand_shifts _ _ s fun _ => .of_same (by constructor <;> rfl) rfl⟩
  | raiseApp engine => exact ⟨_, rfl, request_shifts _ engine _ s workRaiseApp_shifts⟩
  | restoreApp engine => exact ⟨_, rfl, request_shifts _ engine _ s workRestoreApp_shifts⟩
  | warmRestart engine => exact ⟨_, rfl, request_shifts _ engine _ s workWarmRestart_shifts⟩
  | warmRestartComplete part => exact execWarmRestartComplete_shifts part s
  | badCommand code => exact execBadCommand_shifts code s
  | overrun =>
    exact ⟨_, rfl, if_shifts _ _ _ fun _ => giveCommand_shifts _ _ s fun _ => .refl⟩
  | attnCauseWrite value => exact ⟨_, rfl, writeByte_shifts _ value s⟩
  | attnEnableWrite value => exact ⟨_, rfl, writeByte_shifts _ value s⟩
  | argWrite address value => exact ⟨_, rfl, writeByte_shifts _ value s⟩
  | stampLatch =>
    exact ⟨_, rfl, if_shifts _ _ _ fun _ => .of_same (by constructor <;> rfl) rfl⟩
  | coldReset cause => exact execColdReset_shifts cause s
  | resetRelease => exact ⟨_, rfl, sampleInputs_shifts s false false s.clkPresent s.port⟩
  | stampTick => exact ⟨_, rfl, if_shifts _ _ _ fun _ => .of_link (tick_shift s)⟩
  | verifyExpiry =>
    exact ⟨_, rfl, if_shifts _ _ _ fun _ => .of_same (by constructor <;> rfl) rfl⟩
  | verifyExpiryRequest => exact execVerifyExpiryRequest_shifts s
  | roundStart => exact execRoundStart_shifts s
  | poll => exact execPoll_shifts s
  | replyWindowClose => exact execReplyWindowClose_shifts s
  | replyJudge stop bytes => exact execReplyJudge_shifts stop bytes s
  | reportRaise =>
    exact ⟨_, rfl, reportStep_shifts 1 _ s fun r _ u head => answerWith_shifts head _ _
      (Work.raise_changes _ _) (Work.raise_records _ _)⟩
  | reportRestore =>
    exact ⟨_, rfl, reportStep_shifts 2 _ s fun r _ u head => answerWith_shifts head _ _
      (fun _ => Work.changes_of_eases (Work.restore_eases _ _)) (Work.restore_records _ _)⟩
  | reportArrive =>
    exact ⟨_, rfl, reportStep_shifts 3 _ s fun r _ u head => answerWith_shifts head _ _
      (Work.reportArrive_changes _ r) (Work.reportArrive_records _ r)⟩
  | reportDepart =>
    exact ⟨_, rfl, reportStep_shifts 4 _ s fun r _ u head => answerWith_shifts head _ _
      (Work.reportDepart_changes _ r) (Work.reportDepart_records _ r)⟩
  | lapseRequest => exact execLapseRequest_shifts s
  | linkRaise => exact execLinkRaise_shifts s
  | windowRequestGrant =>
    exact ⟨_, rfl, if_shifts _ _ _ fun _ => grantedWork_shifts _ s (windowWork_shifts _)⟩
  | clkAbsent => exact ⟨_, rfl, inputs_shifts s _ _ false s.port⟩
  | clkResumed => exact ⟨_, rfl, sampleInputs_shifts s s.resetnLow s.poweringUp true s.port⟩

/-- A law that every shift keeps, and that does not speak of the queue, is kept by every step. -/
theorem shift_keeps {P : State → Prop} (queue : ∀ s q, P s → P (s.withPending q))
    (shift : ∀ s t, Shift s t → P s → P t) (s t : State) (hs : P s) (h : step s = .next t) :
    P t := by
  unfold step at h
  split at h
  · cases h
    exact hs
  · next c rest _ =>
    obtain ⟨u, hu, shifts⟩ := exec_shifts c (s.withPending rest)
    rw [hu] at h
    cases h
    clear hu
    induction shifts with
    | refl => exact queue s rest hs
    | tail _ m ih => exact shift _ _ m ih

/-! ## The law of the link -/

/-- What the map installed holds of the staged records (R63). -/
theorem installMap_map {α : Type} (f : Location → α) (g : Staged → α)
    (h : ∀ x p n, f (Staged.install x p n) = g x) (staged : List Staged) (active : Nat) :
    (installMap staged active).map f = staged.map g := by
  cases staged with
  | nil => rfl
  | cons x rest =>
    show f _ :: (rest.map fun y => y.install .unverified 0).map f = g x :: rest.map g
    rw [h, List.map_map]
    exact congrArg _ (List.map_congr_left fun y _ => h y _ _)

/-- The work of a request, and marks beside it, leave the link and the addresses held. -/
theorem linkLaw_of_records {s t : State} (records : SameRecords s.topo.locs t.topo.locs)
    (staged : t.topo.staged = s.topo.staged) (link : t.link = s.link) (h : LinkLaw s) :
    LinkLaw t := by
  have agents := records.map_eq (·.agent) fun _ => rfl
  rw [linkLaw_iff] at h ⊢
  rw [agents, staged, link]
  exact h

/-- A record joins staging with an address that none holds, or with none (R58). -/
theorem heldAddresses_put {w : Window} {staged : List Staged}
    (ok : (putCheck w staged).1 = Result.ok)
    (h : (heldAddresses (staged.map (·.agent))).Nodup) :
    (heldAddresses ((staged ++ [putRecord w staged]).map (·.agent))).Nodup := by
  obtain ⟨_, _, agent⟩ := putCheck_ok ok
  have held : heldAddresses ((staged ++ [putRecord w staged]).map (·.agent))
      = heldAddresses (staged.map (·.agent)) ++ heldAddresses [w.argAt 6] := by
    unfold heldAddresses
    rw [List.map_append, List.filter_append]
    rfl
  rw [held]
  refine List.nodup_append.mpr ⟨h, (List.nodup_singleton _).filter _, fun b hb c hc same => ?_⟩
  obtain ⟨hc, carries⟩ := List.mem_filter.mp hc
  obtain rfl := List.mem_singleton.mp hc
  subst same
  obtain ⟨x, hx, hxb⟩ := List.mem_map.mp (List.mem_of_mem_filter hb)
  rcases agent with zero | new
  · exact absurd zero (by simpa using carries)
  · exact new x hx hxb

theorem shift_linkLaw (s t : State) (m : Shift s t) (hs : LinkLaw s) : LinkLaw t := by
  have alone : (heldAddresses ([Staged.root].map (·.agent))).Nodup := List.nodup_nil
  cases m with
  | linked h => exact h.law hs
  | worked w changes records slots locs staged link =>
    exact linkLaw_of_records (locs ▸ records) staged link hs
  | relabelled h key counted slots tally records staged link =>
    exact linkLaw_of_records records staged link hs
  | staging slots locs staged link =>
    rw [linkLaw_iff] at hs ⊢
    obtain ⟨queued, lined, heldStaged, heldLocs⟩ := hs
    rw [locs, link]
    refine ⟨queued, lined, ?_, heldLocs⟩
    rcases staged with staged | ⟨w, ok, staged⟩
    · rw [staged]
      exact alone
    · rw [staged]
      exact heldAddresses_put ok heldStaged
  | committed slots locs staged link =>
    rw [linkLaw_iff] at hs ⊢
    obtain ⟨queued, lined, heldStaged, _⟩ := hs
    obtain ⟨queued', lined'⟩ := Link.atCommit_laws queued lined
    rw [locs, staged, link, installMap_map (·.agent) (·.agent) fun _ _ _ => rfl]
    exact ⟨queued', lined', alone, heldStaged⟩
  | reset slots locs staged link =>
    rw [linkLaw_iff, locs, staged, link, ← linkLaw_iff]
    exact linkLaw_reset

/-- Settles O59: the Link Controller's own steps keep its law, the work of a request leaves the link
beside the answer, and a commit rebuilds it from addresses that are held once. -/
theorem linkLawKept : Obligations.LinkLawKept := by
  unfold Obligations.LinkLawKept
  exact fun s t hs h => shift_keeps (fun _ _ h => h) shift_linkLaw s t hs h

/-! ## The laws of the map -/

/-- The laws of the map, with the reserved indices that they rest on (R5, R47, R49, R51, R57). -/
structure MapLaw (s : State) : Prop where
  reserved : ReservedLaw s
  rollUp : RollUpLaw s
  root : RootLaw s
  path : PathLaw s

/-- The law of the reserved indices reads no more than the keys (R5). -/
theorem reservedLaw_of_keys {s t : State} (h : ReservedLaw s)
    (keys : ∀ (i : Fin 128) (f : Entry), t.engine.slots[i].entry = some f →
      ∃ e, s.engine.slots[i].entry = some e ∧ f.key = e.key) : ReservedLaw t := by
  obtain ⟨reserved, general⟩ := h
  refine ⟨fun d f hf => ?_, fun i f d hi hf => ?_⟩
  · obtain ⟨e, he, key⟩ := keys _ f hf
    exact key.trans (reserved d e he)
  · obtain ⟨e, he, key⟩ := keys i f hf
    exact key ▸ general i e d hi he

theorem reservedLaw_of_slots {s t : State} (h : ReservedLaw s)
    (slots : t.engine.slots = s.engine.slots) : ReservedLaw t :=
  reservedLaw_of_keys h fun _ f hf => ⟨f, slots ▸ hf, rfl⟩

theorem reservedLaw_relabel {s t : State} (h : ReservedLaw s) {f : Entry → Entry}
    (key : ∀ e, (f e).key = e.key)
    (slots : t.engine.slots = s.engine.slots.map (Slot.relabel f)) : ReservedLaw t :=
  reservedLaw_of_keys h fun i g hg => by
    rw [slots] at hg
    obtain ⟨e, he, rfl⟩ := entry_relabel _ _ _ _ hg
    exact ⟨e, he, key e⟩

/-- The laws of the map of a state whose records are those given, with the same staging area. -/
theorem rootLaw_of_records {s t : State} (h : RootLaw s)
    (records : SameRecords s.topo.locs t.topo.locs) (staged : t.topo.staged = s.topo.staged) :
    RootLaw t := by
  obtain ⟨⟨l, hl, path, level, parent, agent, present⟩, stagedRoot⟩ := h
  have given := congrArg (·[0]?) records.given
  simp only [List.getElem?_map, hl, Option.map_some] at given
  obtain ⟨l', hl', same⟩ := Option.map_eq_some_iff.mp given
  have root := records.root
  unfold presenceAt at root
  rw [hl, hl'] at root
  refine ⟨⟨l', hl', ?_, ?_, ?_, ?_, root.trans present⟩, staged ▸ stagedRoot⟩
  · exact (congrArg Location.path same).trans path
  · exact (congrArg Location.level same).trans level
  · exact (congrArg Location.parent same).trans parent
  · exact (congrArg Location.agent same).trans agent

theorem pathLaw_of_records {s t : State} (h : PathLaw s)
    (records : SameRecords s.topo.locs t.topo.locs) (staged : t.topo.staged = s.topo.staged) :
    PathLaw t := by
  have paths := records.map_eq (·.path) fun _ => rfl
  unfold PathLaw
  rw [paths, staged]
  exact h

theorem pathLaw_root : (∀ p ∈ [Staged.root].map (·.path), p.configurable = true)
    ∧ ([Staged.root].map (·.path)).Nodup := by decide

/-- A record joins staging with a configurable path that is new there (R58). -/
theorem paths_put {w : Window} {staged : List Staged} (ok : (putCheck w staged).1 = Result.ok)
    (formed : ∀ p ∈ staged.map (·.path), p.configurable = true)
    (distinct : (staged.map (·.path)).Nodup) :
    (∀ p ∈ (staged ++ [putRecord w staged]).map (·.path), p.configurable = true)
      ∧ ((staged ++ [putRecord w staged]).map (·.path)).Nodup := by
  obtain ⟨path, new, _⟩ := putCheck_ok ok
  have appended : (staged ++ [putRecord w staged]).map (·.path)
      = staged.map (·.path) ++ [w.argPath 0] := List.map_append
  rw [appended]
  refine ⟨fun p hp => ?_, List.nodup_append.mpr ⟨distinct, List.nodup_singleton _,
    fun p hp q hq same => ?_⟩⟩
  · rcases List.mem_append.mp hp with hp | hp
    · exact formed p hp
    · exact List.mem_singleton.mp hp ▸ path
  · obtain ⟨x, hx, hxp⟩ := List.mem_map.mp hp
    exact new x hx (hxp.trans (same.trans (List.mem_singleton.mp hq)))

theorem staging_mapLaw {s t : State} (hs : MapLaw s) (slots : t.engine.slots = s.engine.slots)
    (locs : t.topo.locs = s.topo.locs)
    (staged : t.topo.staged = [Staged.root] ∨ ∃ w : Window,
      (putCheck w s.topo.staged).1 = Result.ok
        ∧ t.topo.staged = s.topo.staged ++ [putRecord w s.topo.staged]) : MapLaw t := by
  obtain ⟨reserved, rollUp, ⟨root, stagedRoot⟩, formed, stagedFormed, distinct, stagedDistinct⟩ :=
    hs
  have first : t.topo.staged[0]? = some Staged.root := by
    rcases staged with staged | ⟨w, _, staged⟩
    · rw [staged]
      rfl
    · rw [staged]
      exact (List.getElem?_append_left (List.getElem?_eq_some_iff.mp stagedRoot).1).trans stagedRoot
  have paths : (∀ p ∈ t.topo.staged.map (·.path), p.configurable = true)
      ∧ (t.topo.staged.map (·.path)).Nodup := by
    rcases staged with staged | ⟨w, ok, staged⟩
    · rw [staged]
      exact pathLaw_root
    · rw [staged]
      exact paths_put ok stagedFormed stagedDistinct
  refine ⟨reservedLaw_of_slots reserved slots, ?_, ⟨locs ▸ root, first⟩, ?_⟩
  · rw [rollUpLaw_iff, slots, locs]
    exact rollUp
  · exact ⟨locs ▸ formed, paths.1, locs ▸ distinct, paths.2⟩

/-- A commit installs the staged records, whose root is the root, PRESENT (R49, R63). -/
theorem committed_mapLaw {s t : State} (hs : MapLaw s)
    (slots : t.engine.slots = s.engine.slots.map (Slot.relabel Entry.toRoot))
    (locs : t.topo.locs
      = installMap s.topo.staged (countEntries t.engine.slots (·.state.active)))
    (staged : t.topo.staged = [Staged.root]) : MapLaw t := by
  obtain ⟨reserved, rollUp, ⟨root, stagedRoot⟩, formed, stagedFormed, distinct, stagedDistinct⟩ :=
    hs
  have paths : t.topo.locs.map (·.path) = s.topo.staged.map (·.path) := by
    rw [locs]
    exact installMap_map _ _ (fun _ _ _ => rfl) _ _
  have first := installMap_get s.topo.staged (countEntries t.engine.slots (·.state.active)) 0
    Staged.root stagedRoot
  refine ⟨reservedLaw_relabel reserved Entry.label_toRoot.key slots, ?_,
    ⟨⟨_, locs ▸ first, rfl, rfl, rfl, rfl, rfl⟩, ?_⟩, ?_⟩
  · rw [rollUpLaw_iff, locs]
    refine rolledUp_installMap (fun i e he => ?_) s.topo.staged
    rw [slots] at he
    obtain ⟨f, _, rfl⟩ := entry_relabel _ _ _ _ he
    rfl
  · rw [staged]
    rfl
  · unfold PathLaw
    rw [paths, staged]
    exact ⟨stagedFormed, pathLaw_root.1, stagedDistinct, pathLaw_root.2⟩

theorem shift_mapLaw (s t : State) (m : Shift s t) (hs : MapLaw s) : MapLaw t := by
  cases m with
  | linked h =>
    have records : SameRecords s.topo.locs t.topo.locs := h.map.locs ▸ .refl _
    refine ⟨reservedLaw_of_slots hs.reserved h.map.slots, ?_,
      rootLaw_of_records hs.root records h.map.staged,
      pathLaw_of_records hs.path records h.map.staged⟩
    rw [rollUpLaw_iff, h.map.slots, h.map.locs]
    exact hs.rollUp
  | worked w changes records slots locs staged link =>
    have chain := changes hs.reserved
    have reserved : w.Reserved := Work.reserved_of_changes chain hs.reserved
    have kept : SameRecords s.topo.locs t.topo.locs := locs ▸ records
    refine ⟨?_, ?_, rootLaw_of_records hs.root kept staged, pathLaw_of_records hs.path kept staged⟩
    · unfold ReservedLaw
      rw [slots]
      exact reserved
    · rw [rollUpLaw_iff, slots, locs]
      exact Work.rolledUp_of_changes chain hs.rollUp
  | relabelled h key counted slots tally records staged link =>
    refine ⟨reservedLaw_relabel hs.reserved key slots, ?_,
      rootLaw_of_records hs.root records staged,
      pathLaw_of_records hs.path records staged⟩
    rw [rollUpLaw_iff, slots]
    exact RolledUp.relabel (RolledUp.of_tally hs.rollUp tally) counted
  | staging slots locs staged link => exact staging_mapLaw hs slots locs staged
  | committed slots locs staged link => exact committed_mapLaw hs slots locs staged
  | reset slots locs staged link =>
    obtain ⟨_, _, _, _, _, reserved, _, rollUp, _, root, path, _⟩ := lawsHoldAfterColdReset
    refine ⟨reservedLaw_of_slots reserved slots, ?_, ?_, ?_⟩
    · rw [rollUpLaw_iff, slots, locs]
      exact rollUp
    · exact rootLaw_of_records root (locs ▸ .refl _) staged
    · exact pathLaw_of_records path (locs ▸ .refl _) staged

/-- Settles O56: the counts move with every entry that enters or leaves the active states (R51), and
only TOPO-PUT and the commit bring paths into staging and into the map (R58, R63). -/
theorem mapLawsKept : Obligations.MapLawsKept := by
  unfold Obligations.MapLawsKept
  intro s t reserved rollUp root path h
  obtain ⟨reserved', rollUp', root', path'⟩ :=
    shift_keeps (P := MapLaw) (fun _ _ h => ⟨h.reserved, h.rollUp, h.root, h.path⟩) shift_mapLaw s t
      ⟨reserved, rollUp, root, path⟩ h
  exact ⟨reserved', rollUp', root', path'⟩

end Sys2Proof.Machine

/-!
LOOKUP (R156, R157): the anchor of a path is the nearest configured location on it (R50), CUT is an
ABSENT strict configured ancestor (R52), and the flags byte is the six flags.
-/

namespace Sys2Proof.Machine

/-! ## Paths that cover one another -/

theorem LocPath.covers_iff (q p : LocPath) : q.covers p = true ↔
    (q.station = 0xFF ∨ q.station = p.station) ∧ (q.bay = 0 ∨ q.bay = p.bay)
      ∧ (q.node = 0xFF ∨ q.node = p.node) ∧ (q.channel = 0xFF ∨ q.channel = p.channel) := by
  unfold LocPath.covers
  simp only [Bool.and_eq_true, Bool.or_eq_true, beq_iff_eq, and_assoc]

theorem LocPath.covers_refl (p : LocPath) : p.covers p = true :=
  (covers_iff p p).mpr ⟨.inr rfl, .inr rfl, .inr rfl, .inr rfl⟩

/-- A field that covers a field that covers a third covers the third. -/
theorem field_covers_trans {absent a b c : Byte} (h : a = absent ∨ a = b)
    (h' : b = absent ∨ b = c) : a = absent ∨ a = c := by
  rcases h with h | rfl
  · exact .inl h
  · exact h'

theorem field_covers_antisymm {absent a b : Byte} (h : a = absent ∨ a = b)
    (h' : b = absent ∨ b = a) : a = b := by
  rcases h with h | h
  · rcases h' with h' | h'
    · exact h.trans h'.symm
    · exact h'.symm
  · exact h

theorem LocPath.covers_trans {a b c : LocPath} (h : a.covers b = true) (h' : b.covers c = true) :
    a.covers c = true := by
  rw [covers_iff] at h h' ⊢
  obtain ⟨station, bay, node, channel⟩ := h
  obtain ⟨station', bay', node', channel'⟩ := h'
  exact ⟨field_covers_trans station station', field_covers_trans bay bay',
    field_covers_trans node node', field_covers_trans channel channel'⟩

theorem LocPath.ext_fields {a b : LocPath} (station : a.station = b.station) (bay : a.bay = b.bay)
    (node : a.node = b.node) (channel : a.channel = b.channel) : a = b := by
  cases a
  cases b
  cases station
  cases bay
  cases node
  cases channel
  rfl

theorem LocPath.covers_antisymm {a b : LocPath} (h : a.covers b = true) (h' : b.covers a = true) :
    a = b := by
  rw [covers_iff] at h h'
  obtain ⟨station, bay, node, channel⟩ := h
  obtain ⟨station', bay', node', channel'⟩ := h'
  exact ext_fields (field_covers_antisymm station station') (field_covers_antisymm bay bay')
    (field_covers_antisymm node node') (field_covers_antisymm channel channel')

/-! ## One step up -/

section
variable {p : LocPath}

theorem LocPath.parent_of_channel (h : p.channel ≠ 0xFF) : p.parent = { p with channel := 0xFF } :=
  if_pos (bne_iff_ne.mpr h)

theorem LocPath.parent_of_node (hc : p.channel = 0xFF) (h : p.node ≠ 0xFF) :
    p.parent = { p with node := 0xFF } := by
  unfold LocPath.parent
  rw [if_neg (by simp [hc]), if_pos (bne_iff_ne.mpr h)]

theorem LocPath.parent_of_bay (hc : p.channel = 0xFF) (hn : p.node = 0xFF) (h : p.bay ≠ 0) :
    p.parent = { p with bay := 0 } := by
  unfold LocPath.parent
  rw [if_neg (by simp [hc]), if_neg (by simp [hn]), if_pos (bne_iff_ne.mpr h)]

theorem LocPath.parent_of_station (hc : p.channel = 0xFF) (hn : p.node = 0xFF) (h : p.bay = 0) :
    p.parent = LocPath.root := by
  unfold LocPath.parent
  rw [if_neg (by simp [hc]), if_neg (by simp [hn]), if_neg (by simp [h])]

end

/-- A proof by the parts that a path names: a channel, a node, a bay, or at most a station (R47). -/
theorem LocPath.by_form {P : Prop} (p : LocPath)
    (channel : p.channel ≠ 0xFF → P)
    (node : p.channel = 0xFF → p.node ≠ 0xFF → P)
    (bay : p.channel = 0xFF → p.node = 0xFF → p.bay ≠ 0 → P)
    (station : p.channel = 0xFF → p.node = 0xFF → p.bay = 0 → P) : P := by
  by_cases hc : p.channel = 0xFF
  · by_cases hn : p.node = 0xFF
    · by_cases hb : p.bay = 0
      · exact station hc hn hb
      · exact bay hc hn hb
    · exact node hc hn
  · exact channel hc

/-- How many steps up the root lies (R50). -/
def LocPath.depth (p : LocPath) : Nat :=
  if p.channel ≠ 0xFF then 4 else if p.node ≠ 0xFF then 3 else if p.bay ≠ 0 then 2
  else if p.station ≠ 0xFF then 1 else 0

theorem LocPath.depth_le (p : LocPath) : p.depth ≤ 4 := by
  unfold LocPath.depth
  split_ifs <;> omega

theorem LocPath.depth_parent (p : LocPath) (h : p.depth ≠ 0) : p.parent.depth < p.depth := by
  refine p.by_form (fun hc => ?_) (fun hc hn => ?_) (fun hc hn hb => ?_) fun hc hn hb => ?_
  · rw [parent_of_channel hc]
    unfold LocPath.depth
    simp only [hc, ne_eq, not_true_eq_false, not_false_eq_true, if_true, if_false]
    split_ifs <;> omega
  · rw [parent_of_node hc hn]
    unfold LocPath.depth
    simp only [hc, hn, ne_eq, not_true_eq_false, not_false_eq_true, if_true, if_false]
    split_ifs <;> omega
  · rw [parent_of_bay hc hn hb]
    unfold LocPath.depth
    simp only [hc, hn, hb, ne_eq, not_true_eq_false, not_false_eq_true, if_true, if_false]
    split_ifs <;> omega
  · rw [parent_of_station hc hn hb]
    exact Nat.pos_of_ne_zero h

theorem LocPath.eq_root_of_depth (p : LocPath) (h : p.depth = 0) : p = LocPath.root := by
  unfold LocPath.depth at h
  split_ifs at h with hc hn hb hs
  exact ext_fields (not_not.mp hs) (not_not.mp hb) (not_not.mp hn) (not_not.mp hc)

theorem LocPath.parent_covers (p : LocPath) : p.parent.covers p = true := by
  rw [covers_iff]
  refine p.by_form (fun hc => ?_) (fun hc hn => ?_) (fun hc hn hb => ?_) fun hc hn hb => ?_
  · rw [parent_of_channel hc]
    exact ⟨.inr rfl, .inr rfl, .inr rfl, .inl rfl⟩
  · rw [parent_of_node hc hn]
    exact ⟨.inr rfl, .inr rfl, .inl rfl, .inr rfl⟩
  · rw [parent_of_bay hc hn hb]
    exact ⟨.inr rfl, .inl rfl, .inr rfl, .inr rfl⟩
  · rw [parent_of_station hc hn hb]
    exact ⟨.inl rfl, .inl rfl, .inl rfl, .inl rfl⟩

/-- What a well formed path names it names from the station down (00_scope.md, 5.3). -/
theorem LocPath.wellFormed_named {q : LocPath} (h : q.wellFormed = true) :
    (q.bay ≠ 0 → q.station ≠ 0xFF) ∧ (q.node ≠ 0xFF → q.bay ≠ 0)
      ∧ (q.channel ≠ 0xFF → q.node ≠ 0xFF) := by
  rcases (wellFormed_iff q).mp h with ⟨_, bay, node, channel⟩ | ⟨station, _, node, channel⟩
  · exact ⟨fun h => absurd bay h, fun h => absurd node h, fun h => absurd channel h⟩
  · exact ⟨fun _ => station_ne_root station, fun h => (node.resolve_left h).2,
      fun h => (channel.resolve_left h).2⟩

/-- A path above another lies on the way up from it (R50). -/
theorem LocPath.covers_parent {q p : LocPath} (hq : q.wellFormed = true)
    (h : q.covers p = true) (ne : q ≠ p) : q.covers p.parent = true := by
  obtain ⟨named_station, named_bay, named_node⟩ := wellFormed_named hq
  rw [covers_iff] at h ⊢
  obtain ⟨station, bay, node, channel⟩ := h
  refine p.by_form (fun hc => ?_) (fun hc hn => ?_) (fun hc hn hb => ?_) fun hc hn hb => ?_
  · rw [parent_of_channel hc]
    refine ⟨station, bay, node, .inl (by_contra fun named => ne ?_)⟩
    have hn := named_node named
    have hb := named_bay hn
    exact ext_fields (station.resolve_left (named_station hb)) (bay.resolve_left hb)
      (node.resolve_left hn) (channel.resolve_left named)
  · rw [parent_of_node hc hn]
    refine ⟨station, bay, .inl (by_contra fun named => ne ?_), channel⟩
    have hb := named_bay named
    exact ext_fields (station.resolve_left (named_station hb)) (bay.resolve_left hb)
      (node.resolve_left named) (channel.elim (fun e => e.trans hc.symm) id)
  · rw [parent_of_bay hc hn hb]
    refine ⟨station, .inl (by_contra fun named => ne ?_), node, channel⟩
    exact ext_fields (station.resolve_left (named_station named)) (bay.resolve_left named)
      (node.elim (fun e => e.trans hn.symm) id) (channel.elim (fun e => e.trans hc.symm) id)
  · rw [parent_of_station hc hn hb]
    have absent_bay := bay.elim id fun e => e.trans hb
    have absent_node := node.elim id fun e => e.trans hn
    have absent_channel := channel.elim id fun e => e.trans hc
    refine ⟨.inl (by_contra fun named => ne ?_), .inl absent_bay, .inl absent_node,
      .inl absent_channel⟩
    exact ext_fields (station.resolve_left named) (absent_bay.trans hb.symm)
      (absent_node.trans hn.symm) (absent_channel.trans hc.symm)

/-! ## The anchor -/

section
variable {locs : List Location}

theorem configured_some {p : LocPath} {i : Nat} (h : configured locs p = some i) :
    ∃ l, locs[i]? = some l ∧ l.path = p := by
  unfold configured at h
  split at h
  · cases h
  · obtain ⟨bound, same, _⟩ := List.findIdx?_eq_some_iff_getElem.mp h
    exact ⟨_, List.getElem?_eq_getElem bound, beq_iff_eq.mp same⟩

/-- A path that is not configured is the path of no record; none has a channel (R47). -/
theorem configured_none {p : LocPath} (h : configured locs p = none)
    (formed : ∀ l ∈ locs, l.path.configurable = true) : ∀ l ∈ locs, l.path ≠ p := by
  intro l hl same
  unfold configured at h
  split at h
  · next channel =>
    have absent := ((LocPath.configurable_iff _).mp (formed l hl)).2
    exact (LocPath.hasChannel_iff p).mp channel (same ▸ absent)
  · have other := List.findIdx?_eq_none_iff.mp h l hl
    rw [same, beq_self_eq_true] at other
    cases other

/-- The nearest configured location on a path: it covers the path, and no configured location that
covers the path lies below it (R50). -/
theorem anchorUpTo_nearest (formed : ∀ l ∈ locs, l.path.configurable = true)
    (root : ∃ l, locs[0]? = some l ∧ l.path = LocPath.root) (n : Nat) (p : LocPath)
    (depth : p.depth < n) : ∃ l, locs[anchorUpTo locs n p]? = some l ∧ l.path.covers p = true
      ∧ ∀ m ∈ locs, m.path.covers p = true → m.path.covers l.path = true := by
  induction n generalizing p with
  | zero => exact absurd depth (Nat.not_lt_zero _)
  | succ n ih =>
    cases h : configured locs p with
    | some i =>
      obtain ⟨l, hl, rfl⟩ := configured_some h
      have found : anchorUpTo locs (n + 1) l.path = i := by
        unfold anchorUpTo
        rw [h]
      exact ⟨l, found ▸ hl, l.path.covers_refl, fun m _ hm => hm⟩
    | none =>
      have others := configured_none h formed
      have above : p.depth ≠ 0 := by
        intro zero
        obtain ⟨l, hl, path⟩ := root
        exact others l (List.mem_of_getElem? hl) (path.trans (p.eq_root_of_depth zero).symm)
      have up : anchorUpTo locs (n + 1) p = anchorUpTo locs n p.parent := by
        conv_lhs => unfold anchorUpTo
        rw [h]
      obtain ⟨l, hl, covers, nearest⟩ :=
        ih p.parent (Nat.lt_of_lt_of_le (p.depth_parent above) (Nat.le_of_lt_succ depth))
      refine ⟨l, up ▸ hl, LocPath.covers_trans covers p.parent_covers, fun m hm hp => ?_⟩
      have wellFormed := ((LocPath.configurable_iff _).mp (formed m hm)).1
      exact nearest m hm (LocPath.covers_parent wellFormed hp (others m hm))

/-- The anchor is the configured location that covers the path and lies lowest (R50). -/
theorem anchorOf_eq (formed : ∀ l ∈ locs, l.path.configurable = true)
    (distinct : (locs.map (·.path)).Nodup)
    (root : ∃ l, locs[0]? = some l ∧ l.path = LocPath.root) {p : LocPath} {a : Nat} {l : Location}
    (hl : locs[a]? = some l) (covers : l.path.covers p = true)
    (nearest : ∀ m ∈ locs, m.path.covers p = true → m.path.covers l.path = true) :
    anchorOf locs p = a := by
  obtain ⟨x, hx, covers', nearest'⟩ :=
    anchorUpTo_nearest formed root 5 p (Nat.lt_succ_of_le p.depth_le)
  have same : x.path = l.path := LocPath.covers_antisymm
    (nearest x (List.mem_of_getElem? hx) covers') (nearest' l (List.mem_of_getElem? hl) covers)
  have at_x : (locs.map (·.path))[anchorOf locs p]? = some l.path := by
    rw [List.getElem?_map]
    exact (congrArg (Option.map (·.path)) hx).trans (congrArg some same)
  have at_l : (locs.map (·.path))[a]? = some l.path := by
    rw [List.getElem?_map, hl]
    rfl
  exact (List.getElem?_inj (List.getElem?_eq_some_iff.mp at_x).1 distinct).mp (at_x.trans at_l.symm)

/-- A path is configured exactly when its anchor is the path itself (R50). -/
theorem configured_iff (formed : ∀ l ∈ locs, l.path.configurable = true) {p : LocPath}
    {l : Location} (hl : locs[anchorOf locs p]? = some l) :
    (configured locs p).isSome = true ↔ l.path = p := by
  constructor
  · intro h
    obtain ⟨i, hi⟩ := Option.isSome_iff_exists.mp h
    obtain ⟨m, hm, path⟩ := configured_some hi
    have found : anchorOf locs p = i := by
      unfold anchorOf anchorUpTo
      rw [hi]
    rw [found, hm] at hl
    cases hl
    exact path
  · intro same
    by_contra h
    exact configured_none (by simpa using h) formed l (List.mem_of_getElem? hl) same

/-! ## CUT -/

/-- The strict configured ancestors of a record, by the steps to its parent (R47). -/
theorem mem_ancestorsUpTo (n i j : Nat) : j ∈ ancestorsUpTo locs n i ↔
    ∃ k, k < n ∧ (∀ m, m ≤ k → (parentOf locs)^[m] i ≠ 0) ∧ j = (parentOf locs)^[k + 1] i := by
  induction n generalizing i with
  | zero => exact ⟨fun h => absurd h List.not_mem_nil, fun ⟨k, hk, _⟩ => absurd hk (by omega)⟩
  | succ n ih =>
    unfold ancestorsUpTo
    split
    · next root =>
      refine ⟨fun h => absurd h List.not_mem_nil, fun ⟨k, _, above, _⟩ => ?_⟩
      exact absurd root (above 0 (Nat.zero_le k))
    · next below =>
      rw [List.mem_cons, ih]
      constructor
      · rintro (rfl | ⟨k, hk, above, rfl⟩)
        · refine ⟨0, Nat.succ_pos n, fun m hm => ?_, rfl⟩
          rw [Nat.le_zero.mp hm]
          exact below
        · refine ⟨k + 1, Nat.succ_lt_succ hk, fun m hm => ?_, rfl⟩
          cases m with
          | zero => exact below
          | succ m => exact above m (Nat.le_of_succ_le_succ hm)
      · rintro ⟨k, hk, above, rfl⟩
        cases k with
        | zero => exact .inl rfl
        | succ k =>
          exact .inr ⟨k, Nat.lt_of_succ_lt_succ hk, fun m hm => above (m + 1) (Nat.succ_le_succ hm),
            rfl⟩

theorem presenceAt_absent (i : Nat) :
    presenceAt locs i = .absent ↔ ∃ k, locs[i]? = some k ∧ k.presence = .absent := by
  unfold presenceAt
  cases locs[i]? with
  | none => simp
  | some l => simp

/-- CUT: some strict configured ancestor is ABSENT (R52). -/
theorem cut_iff (i : Nat) : cut locs i = true ↔
    ∃ n, n < 3 ∧ (∀ m, m ≤ n → (parentOf locs)^[m] i ≠ 0)
      ∧ ∃ k, locs[(parentOf locs)^[n + 1] i]? = some k ∧ k.presence = .absent := by
  unfold cut ancestors
  rw [List.any_eq_true]
  simp only [beq_iff_eq, presenceAt_absent, mem_ancestorsUpTo]
  constructor
  · rintro ⟨j, ⟨n, hn, above, rfl⟩, absent⟩
    exact ⟨n, hn, above, absent⟩
  · rintro ⟨n, hn, above, absent⟩
    exact ⟨_, ⟨n, hn, above, rfl⟩, absent⟩

/-- CUT of a path, by its anchor (R52). -/
theorem pathCut_iff (formed : ∀ l ∈ locs, l.path.configurable = true) {p : LocPath}
    {l : Location} (hl : locs[anchorOf locs p]? = some l) : pathCut locs p = true ↔
      (l.path ≠ p ∧ l.presence = .absent) ∨ cut locs (anchorOf locs p) = true := by
  have whether := configured_iff formed hl
  have presence : presenceAt locs (anchorOf locs p) = l.presence := by
    unfold presenceAt
    rw [hl]
  cases h : configured locs p with
  | some i =>
    have found : anchorOf locs p = i := by
      unfold anchorOf anchorUpTo
      rw [h]
    rw [pathCut_configured _ _ _ h, ← found]
    exact (or_iff_right fun other => other.1 (whether.mp (by rw [h]; rfl))).symm
  | none =>
    have other : l.path ≠ p := fun same => by
      have some := whether.mpr same
      rw [h] at some
      cases some
    unfold pathCut
    rw [h]
    simp only [Bool.or_eq_true, beq_iff_eq, presence, other, ne_eq, not_false_eq_true, true_and]

end

/-! ## The flags -/

/-- A byte whose two highest bits are 0 is spelled by its six others (R157). -/
theorem byte_of_six_bits (f : Byte) (h6 : f.getLsbD 6 = false) (h7 : f.getLsbD 7 = false) :
    f = bit (f.getLsbD 0) ||| (bit (f.getLsbD 1) <<< 1) ||| (bit (f.getLsbD 2) <<< 2)
      ||| (bit (f.getLsbD 3) <<< 3) ||| (bit (f.getLsbD 4) <<< 4)
      ||| (bit (f.getLsbD 5) <<< 5) := by
  have spelled : ∀ b : Bool, ∀ i, (bit b).getLsbD i = (decide (i = 0) && b) := by
    intro b i
    cases b <;> simp [bit]
  have high6 : f[6] = false := h6
  have high7 : f[7] = false := h7
  refine BitVec.eq_of_getLsbD_eq fun i hi => ?_
  simp only [BitVec.getLsbD_or, BitVec.getLsbD_shiftLeft, spelled]
  interval_cases i <;> simp [high6, high7]

theorem faultOf_iff (locs : List Location) (i : Nat) (l : Location) : faultOf locs i l = true ↔
    0 < l.own ∨ 0 < l.below ∨ cut locs i = true ∨ l.uMark = true ∨ l.fMark = true := by
  unfold faultOf
  simp only [Bool.or_eq_true, decide_eq_true_eq, or_assoc]

/-! ## The answer -/

theorem exec_lookup (s : State) (h : s.takes) (hg : s.grantsWindow) :
    exec (.lookup .free) s = .next (workLookup (s.atGrant 0x40)) :=
  congrArg _ (giveRequest_free _ _ s h hg)

/-- Settles O21: the anchor is the lowest configured location that covers the path. -/
theorem lookupAnswers : Obligations.LookupAnswers := by
  unfold Obligations.LookupAnswers
  rintro s p a l f cutAt takes grants hp ⟨⟨root, hroot, path, _⟩, _⟩ ⟨paths, _, distinct, _⟩ hcut
  have given : (s.atGrant 0x40).window.argPath 0 = p := hp.symm
  have formed : ∀ x ∈ s.topo.locs, x.path.configurable = true :=
    fun x hx => paths _ (List.mem_map_of_mem hx)
  have cutAt_iff : ∀ i, cutAt i ↔ cut s.topo.locs i = true :=
    fun i => (hcut i).trans (cut_iff i).symm
  rw [exec_lookup s takes grants]
  unfold workLookup
  refine ⟨fun malformed => ?_, fun wellFormed hl covers nearest f0 f1 f2 f3 f4 f5 f6 f7 => ?_⟩
  · simp only [given, malformed, Bool.false_eq_true, if_false]
    rfl
  · have anchor := anchorOf_eq formed distinct ⟨root, hroot, path⟩ hl covers nearest
    have record : s.topo.locs[anchorOf s.topo.locs p]? = some l := anchor.symm ▸ hl
    have whether := configured_iff formed record
    have location : locationAt s.topo.locs a = l := by
      unfold locationAt
      rw [hl]
      rfl
    have flags : lookupFlags s.topo.locs p a = f := by
      have b0 : (configured s.topo.locs p).isSome = f.getLsbD 0 :=
        Bool.eq_iff_iff.mpr (whether.trans f0.symm)
      have b1 : pathCut s.topo.locs p = f.getLsbD 1 :=
        Bool.eq_iff_iff.mpr ((pathCut_iff formed record).trans
          (by rw [f1, cutAt_iff, anchor]))
      have b2 : cut s.topo.locs a = f.getLsbD 2 :=
        Bool.eq_iff_iff.mpr ((cutAt_iff a).symm.trans f2.symm)
      have b5 : faultOf s.topo.locs a l = f.getLsbD 5 :=
        Bool.eq_iff_iff.mpr ((faultOf_iff _ _ _).trans (by rw [f5, cutAt_iff]))
      rw [byte_of_six_bits f f6 f7]
      unfold lookupFlags
      rw [location, b0, b1, b2, b5, f3, f4]
    have result : (if (configured s.topo.locs p).isSome then Result.ok else Result.notConfigured)
        = if l.path = p then 0x00 else 0x10 := if_congr whether rfl rfl
    have response : lookupResponse s.engine.slots s.topo.locs p = f :: l.path.bytes ++ be16 a
        ++ [l.level.code, l.presence.code, byte l.own, byte l.below,
            byte (countEntries s.engine.slots fun e => e.state.active && e.key.path == p),
            l.kind, l.agent] := by
      unfold lookupResponse
      rw [anchor]
      dsimp only
      rw [location, flags]
      rfl
    rw [← result, ← response]
    simp only [given, wellFormed, if_true]
    rfl

end Sys2Proof.Machine

/-!
The expiry request (R66, R67): the SILENT raises in record order, and the keys that a raise can add
to the table.
-/

namespace Sys2Proof.Machine

/-! ## The keys that stand in the table -/

/-- Every standing entry's key is one of K. -/
def Work.KeysIn (K : Key → Prop) (w : Work) : Prop :=
  ∀ (i : Fin 128) (e : Entry), w.entry i = some e → K e.key

section
variable {K : Key → Prop} {w w' : Work}

theorem Work.KeysIn.eases (hw : w.KeysIn K) (h : Work.Eases w w') : w'.KeysIn K := by
  induction h with
  | refl => exact hw
  | tail _ h ih =>
    intro i e he
    obtain ⟨e0, before, key⟩ := h.entry_before i e he
    exact key ▸ ih i e0 before

theorem Work.KeysIn.create (hw : w.KeysIn K) (r : Raise) (hr : K r.key) (i : Fin 128) :
    (w.create r i).KeysIn K := by
  intro j f hf
  rw [entry_create] at hf
  split at hf
  · cases hf
    exact hr
  · exact hw j f hf

theorem Work.KeysIn.raiseTableFull (hw : w.KeysIn K) (full : ∀ d, K (tableFullKey d))
    (d : Domain) : (w.raiseTableFull d).KeysIn K := by
  unfold Work.raiseTableFull
  dsimp only
  split
  · split
    · next found => exact hw.eases (raiseStanding_eases w _ _ _ found)
    · exact hw
  · split
    · exact hw
    · exact hw.create _ (full d) _

theorem Work.KeysIn.refuseFull (hw : w.KeysIn K) (full : ∀ d, K (tableFullKey d)) (d : Domain)
    (a : Nat) : (w.refuseFull d a).KeysIn K := by
  have marked : Work.KeysIn K { w with locs := markAt w.locs d a true } := hw
  exact marked.raiseTableFull full d

theorem Work.KeysIn.displace (hw : w.KeysIn K) (r : Raise) (hr : K r.key) (i : Fin 128) :
    (w.displace r i).KeysIn K :=
  (hw.eases (retire_eases w i)).create r hr i

theorem Work.KeysIn.createInRoom (hw : w.KeysIn K) (full : ∀ d, K (tableFullKey d)) (r : Raise)
    (hr : K r.key) : (w.createInRoom r).1.KeysIn K := by
  unfold Work.createInRoom
  dsimp only
  split
  · exact hw.create r hr _
  · split
    · exact hw.create r hr _
    · split
      · exact hw.create r hr _
      · split
        · exact hw.displace r hr _
        · exact hw.refuseFull full _ _

/-- A raise adds its own key to the table or a TABLE FULL key (R17, R92). -/
theorem Work.KeysIn.raise (hw : w.KeysIn K) (full : ∀ d, K (tableFullKey d)) (r : Raise)
    (hr : K r.key) : (w.raise r).1.KeysIn K := by
  unfold Work.raise
  split
  · split
    · next found => exact hw.eases (raiseStanding_eases w r _ _ found)
    · exact hw
  · split
    · exact hw
    · exact hw.createInRoom full r hr

theorem Work.KeysIn.raiseSilent (hw : w.KeysIn K) (full : ∀ d, K (tableFullKey d))
    (paths : List LocPath) (silent : ∀ p ∈ paths, K ⟨p, 2, 0⟩) :
    (w.raiseSilent paths).KeysIn K := by
  induction paths generalizing w with
  | nil => exact hw
  | cons p rest ih =>
    have here := silent p List.mem_cons_self
    exact ih (hw.raise full _ here) fun q hq => silent q (List.mem_cons_of_mem p hq)

end

/-! ## Where SILENT is raised -/

theorem silentAt_iff (locs : List Location) (i : Nat) (l : Location) : silentAt locs i l = true
    ↔ l.presence = .unverified ∧ cut locs i = false
      ∧ (l.parent = 0 ∨ presenceAt locs l.parent = .present) := by
  unfold silentAt
  simp only [Bool.and_eq_true, Bool.or_eq_true, beq_iff_eq, Bool.not_eq_true']
  exact ⟨fun ⟨⟨unverified, parent⟩, joined⟩ => ⟨unverified, joined, parent⟩,
    fun ⟨unverified, joined, parent⟩ => ⟨⟨unverified, parent⟩, joined⟩⟩

theorem mem_silentPaths (locs : List Location) (p : LocPath) : p ∈ silentPaths locs
    ↔ ∃ j l, locs[j]? = some l ∧ silentAt locs j l = true ∧ l.path = p := by
  unfold silentPaths
  simp only [List.mem_map, List.mem_filter, List.mem_zipIdx_iff_getElem?]
  constructor
  · rintro ⟨⟨l, j⟩, ⟨at_j, silent⟩, path⟩
    exact ⟨j, l, at_j, silent, path⟩
  · rintro ⟨j, l, at_j, silent, path⟩
    exact ⟨⟨l, j⟩, ⟨at_j, silent⟩, path⟩

theorem silentPaths_eq_nil {locs : List Location} (h : ∀ l ∈ locs, l.presence ≠ .unverified) :
    silentPaths locs = [] := by
  refine List.eq_nil_iff_forall_not_mem.mpr fun p hp => ?_
  obtain ⟨j, l, at_j, silent, _⟩ := (mem_silentPaths locs p).mp hp
  obtain ⟨unverified, _⟩ := (silentAt_iff locs j l).mp silent
  exact h l (List.mem_of_getElem? at_j) unverified

/-- The raises, one for each record where SILENT is raised, in ascending record order (R66). -/
theorem Work.raiseSilent_silentPaths (w : Work) (locs : List Location) :
    w.raiseSilent (silentPaths locs)
      = (locs.zipIdx.filter fun x => silentAt locs x.2 x.1).foldl
          (fun w x => (w.raise ⟨⟨x.1.path, 2, 0⟩, [], .part⟩).1) w := by
  unfold Work.raiseSilent silentPaths
  rw [List.foldl_map]
  rfl

/-! ## The request -/

/-- The state in which the granted expiry request is worked (R14, R66). -/
def State.atVerify (s : State) : State := { granted .verify s with topo.verify.waiting := false }

/-- A key that may stand after the expiry request: one that stood before, TABLE FULL, or SILENT at a
record where it is raised (R66). -/
def State.expiryKey (s : State) (k : Key) : Prop :=
  (∃ (j : Fin 128) (f : Entry), s.engine.slots[j].entry = some f ∧ f.key = k)
    ∨ (∃ d, k = tableFullKey d)
    ∨ ∃ (j : Nat) (l : Location), s.topo.locs[j]? = some l ∧ l.presence = .unverified
        ∧ cut s.topo.locs j = false
        ∧ (l.parent = 0 ∨ presenceAt s.topo.locs l.parent = .present)
        ∧ k = ⟨l.path, 2, 0⟩

theorem exec_verifyExpiryRequest (s : State) (live : s.live = true)
    (grant : s.nextGrant = some .verify) :
    exec .verifyExpiryRequest s
      = .next (handOff s.atVerify ((taking s).raiseSilent (silentPaths s.topo.locs))) := by
  have verify : s.verifyGranted = true := by
    unfold State.verifyGranted
    rw [live, grant]
    rfl
  show execVerifyExpiryRequest s = _
  unfold execVerifyExpiryRequest
  rw [if_pos verify]
  rfl

/-- The verify timer's request worked, its work handed off (R16, R66). -/
theorem worked_atVerify (s : State) (w : Work) : worked .verify s (handOff s.atVerify w) w := by
  refine ⟨⟨rfl, rfl, rfl, rfl, ?_, rfl, rfl, rfl, rfl, rfl, rfl, rfl, rfl⟩,
    ⟨rfl, rfl, rfl, rfl, rfl⟩, rfl, ?_⟩
  · show (s.window.cause ||| _ ||| _ ||| _) &&& s.window.cause = s.window.cause
    simp only [BitVec.or_assoc]
    exact cause_kept _ _
  · have causes : s.window.cause ||| workCauses s w = s.window.cause
        ||| (w.events.foldl Summary.applyEvent (s.summary, 0)).2
        ||| (if w.space then 0x08 else 0)
        ||| (if s.release.trips (fatalHeld w.slots) then 0x04 else 0) := by
      unfold workCauses
      rw [← BitVec.or_assoc, ← BitVec.or_assoc]
    rw [causes]
    rfl

/-- Settles O41: the raises leave every presence, and add no key but SILENT and TABLE FULL. -/
theorem expiryRequestRaisesSilent : Obligations.ExpiryRequestRaisesSilent := by
  unfold Obligations.ExpiryRequestRaisesSilent
  intro s live grant
  obtain ⟨frame, kept, port, window⟩ :=
    worked_atVerify s ((taking s).raiseSilent (silentPaths s.topo.locs))
  refine ⟨_, exec_verifyExpiryRequest s live grant, frame, rfl, rfl, ?_, ?_, ?_, ?_⟩
  · have steady := Work.raiseSilent_steady (taking s) (silentPaths s.topo.locs)
    have presences := congrArg (List.map Location.presence) steady
    rw [List.map_map, List.map_map] at presences
    exact presences
  · refine Work.KeysIn.raiseSilent (w := taking s) (K := s.expiryKey)
      (fun i e he => .inl ⟨i, e, he, rfl⟩) (fun d => .inr (.inl ⟨d, rfl⟩)) _ fun p hp => ?_
    obtain ⟨j, l, at_j, silent, rfl⟩ := (mem_silentPaths _ p).mp hp
    obtain ⟨unverified, joined, parent⟩ := (silentAt_iff _ j l).mp silent
    exact .inr (.inr ⟨j, l, at_j, unverified, joined, parent, rfl⟩)
  · have raises := Work.raiseSilent_silentPaths (taking s) s.topo.locs
    exact raises ▸ ⟨frame, kept, port, window⟩
  · intro verified
    have idle : (taking s).raiseSilent (silentPaths s.topo.locs) = taking s := by
      rw [silentPaths_eq_nil verified]
      rfl
    rw [idle]
    exact ⟨rfl, rfl, rfl⟩

end Sys2Proof.Machine

/-!
SET-LIMITS (R99, R100): its checks in order, the limits written with the hysteresis check for FIELD,
and the expiry of the verify window under the old length and the new one (log entries 8 and 30).
-/

namespace Sys2Proof.Machine

/-! ## The checks -/

section
variable {u : State}

theorem limitsCheck_run (run : u.release.mode = .run) : limitsCheck u = 0x03 :=
  if_pos (by rw [run]; decide)

theorem limitsCheck_badArgument (hold : u.release.mode = .hold)
    (bad : 32 < (u.window.argAt 0).toNat ∨ (u.window.argAt 1).toNat = 0
      ∨ 100 < (u.window.argAt 2).toNat) : limitsCheck u = 0x02 := by
  have zero : (u.window.argAt 1).toNat = 0 → u.window.argAt 1 = 0 :=
    fun h => BitVec.eq_of_toNat_eq h
  unfold limitsCheck
  rw [if_neg (not_not.mpr hold), if_pos (bad.imp_right (Or.imp_left zero))]
  rfl

theorem limitsCheck_inRange (hold : u.release.mode = .hold)
    (reserve : (u.window.argAt 0).toNat ≤ 32) (steps : 1 ≤ (u.window.argAt 1).toNat)
    (gap : (u.window.argAt 2).toNat ≤ 100) : limitsCheck u
      = if 126 - (u.window.argAt 0).toNat < standing u.engine.slots .field then 0x0F else 0x00 := by
  have inRange : ¬ (32 < (u.window.argAt 0).toNat ∨ u.window.argAt 1 = 0
      ∨ 100 < (u.window.argAt 2).toNat) := by
    rintro (high | zero | long)
    · omega
    · rw [zero] at steps
      exact absurd steps (by decide)
    · omega
  unfold limitsCheck
  rw [if_neg (not_not.mpr hold), if_neg inRange]
  rfl

end

theorem exec_setLimits (s : State) (h : s.takes) (hg : s.grantsWindow) :
    exec (.setLimits .free) s = .next (workSetLimits (s.atGrant 0x23)) :=
  congrArg _ (giveRequest_free _ _ s h hg)

/-- A check that fails answers the command, and nothing else changes (R99). -/
theorem workSetLimits_refused (s : State) (result : Byte)
    (check : limitsCheck (s.atGrant 0x23) = result) (fails : result ≠ 0x00) :
    workSetLimits (s.atGrant 0x23) = s.answered 0x23 result (limitsResponse s) := by
  subst check
  exact if_neg fails

/-! ## The limits written -/

/-- The table's work as the limits are written: the hysteresis check for FIELD where the reserve
changes (R100). -/
def limitsWork (l : Limits) (s : State) : Work :=
  if l.reserve = s.limits.reserve then taking { s with limits := l }
  else (taking { s with limits := l }).hysteresisOf .field

theorem limitsWork_silent (l : Limits) (s : State) :
    Work.Silent (taking { s with limits := l }) (limitsWork l s) := by
  unfold limitsWork
  split
  · exact .refl _
  · exact Work.hysteresisOf_silent _ _

/-- FIELD's reserved entry is eased where the reserve changes and FIELD has room under the new one;
every other slot stays (R95, R100). -/
theorem limitsWork_slots (l : Limits) (s : State) (i : Fin 128) :
    (limitsWork l s).slots[i] = if (127 : Fin 128) = i then
        s.engine.slots[i].eased (decide (l.reserve ≠ s.limits.reserve
          ∧ 4 ≤ usableFree s.engine.slots l.reserve .field))
      else s.engine.slots[i] := by
  unfold limitsWork
  by_cases same : l.reserve = s.limits.reserve
  · rw [if_pos same, decide_eq_false fun changed => changed.1 same, Slot.eased_false, ite_self]
    rfl
  · rw [if_neg same, Work.slots_hysteresisOf]
    have room : decide (l.reserve ≠ s.limits.reserve
        ∧ 4 ≤ usableFree s.engine.slots l.reserve .field)
        = decide (4 ≤ usableFree s.engine.slots l.reserve .field) :=
      decide_eq_decide.mpr (and_iff_right same)
    rw [room]
    rfl

/-- The state after SET-LIMITS, the verify window expired under the old length or the new one. -/
def State.withLimits (s : State) (l : Limits) (old new : Bool) : State := { s with
  limits := l
  engine := { s.engine with slots := (limitsWork l s).slots }
  topo := { s.topo with
    locs := (limitsWork l s).locs
    verify := ⟨s.topo.verify.running && !old && !new, s.topo.verify.start,
      s.topo.verify.waiting || old || new⟩ }
  release := s.release.handOff (fatalHeld (limitsWork l s).slots)
  window := { s.window with
    result := 0x00
    resp := respOf (limitsResponse { s with
      limits := l
      engine := { s.engine with slots := (limitsWork l s).slots } })
    cmdState := .done
    counts := Counts.of (limitsWork l s).slots
    cause := s.window.cause ||| (if old then Cause.verify else 0)
      ||| (if s.release.trips (fatalHeld (limitsWork l s).slots) then Cause.trip else 0)
      ||| Cause.done ||| (if new then Cause.verify else 0) } }

/-- The window runs on under the old length and has reached the new one. -/
def State.dueUnder (s : State) (l : Limits) : Bool :=
  s.topo.verify.running && !s.expiryDue
    && decide (100 * l.windowSteps ≤ (s.clock - s.topo.verify.start).toNat)

theorem writeLimits_eq (l : Limits) (s : State) : writeLimits l s = { s with
    limits := l
    engine := { s.engine with slots := (limitsWork l s).slots }
    topo := { s.topo with locs := (limitsWork l s).locs }
    release := s.release.handOff (fatalHeld (limitsWork l s).slots)
    window := { s.window with
      counts := Counts.of (limitsWork l s).slots
      cause := s.window.cause
        ||| (if s.release.trips (fatalHeld (limitsWork l s).slots) then Cause.trip else 0) } } := by
  have quiet := limitsWork_silent l s
  have handed : writeLimits l s = handOff { s with limits := l } (limitsWork l s) := rfl
  rw [handed, handOff_quiet _ _ quiet.events quiet.space]
  unfold storeWork
  rw [quiet.seqNext, quiet.seqSpent]
  rfl

theorem limitsWork_expireIfDue (l : Limits) (s : State) :
    limitsWork l (expireIfDue s) = limitsWork l s := by
  rw [expireIfDue_eq]
  rfl

/-- SET-LIMITS past its checks (R65, R100). -/
theorem workSetLimits_passes (u : State) (ok : limitsCheck u = 0x00) : workSetLimits u
    = u.withLimits (limitsArgument u.window) u.expiryDue
        (u.dueUnder (limitsArgument u.window)) := by
  have passed : workSetLimits u = expireIfDue (complete Result.ok
      (limitsResponse (writeLimits (limitsArgument u.window) (expireIfDue u)))
      (writeLimits (limitsArgument u.window) (expireIfDue u))) := if_pos ok
  rw [passed, writeLimits_eq, limitsWork_expireIfDue, expireIfDue_eq u, expireIfDue_eq]
  rfl

/-! ## The expiry -/

theorem dueUnder_or (s : State) (l : Limits) : (s.expiryDue || s.dueUnder l) = true
    ↔ s.topo.verify.running = true
      ∧ (100 * s.limits.windowSteps ≤ (s.clock - s.topo.verify.start).toNat
        ∨ 100 * l.windowSteps ≤ (s.clock - s.topo.verify.start).toNat) := by
  have due : s.expiryDue = (s.topo.verify.running
      && decide (100 * s.limits.windowSteps ≤ (s.clock - s.topo.verify.start).toNat)) := rfl
  unfold State.dueUnder
  rw [due]
  generalize (s.clock - s.topo.verify.start).toNat = passed
  cases s.topo.verify.running with
  | false => simp
  | true =>
    by_cases old : 100 * s.limits.windowSteps ≤ passed
    · simp [old]
    · simp [old]

/-- The timer after SET-LIMITS: stopped with its request presented, or as it was (R65, R66). -/
theorem withLimits_verify (s : State) (l : Limits) (old new : Bool) :
    (s.withLimits l old new).topo.verify
      = if (old || new) = true then ⟨false, s.topo.verify.start, true⟩ else s.topo.verify := by
  unfold State.withLimits
  cases old with
  | true => simp
  | false =>
    cases new with
    | true => simp
    | false => simp

theorem or_and_byte (a b c : Byte) : (a ||| b) &&& c = (a &&& c) ||| (b &&& c) := by
  refine BitVec.eq_of_getLsbD_eq fun i _ => ?_
  simp only [BitVec.getLsbD_and, BitVec.getLsbD_or, Bool.and_or_distrib_right]

theorem and_or_byte (c m : Byte) : (c &&& m) ||| m = m := by
  refine BitVec.eq_of_getLsbD_eq fun i _ => ?_
  simp only [BitVec.getLsbD_and, BitVec.getLsbD_or]
  cases c.getLsbD i <;> simp

/-- The VERIFY cause after SET-LIMITS: no other cause that the command sets touches it (R65). -/
theorem withLimits_cause (s : State) (l : Limits) (old new : Bool) :
    (s.withLimits l old new).window.cause &&& 0x40
      = if (old || new) = true then 0x40 else s.window.cause &&& 0x40 := by
  have trip : ∀ b : Bool, (if b then Cause.trip else 0) &&& 0x40 = (0 : Byte) := by decide
  have verify : ∀ b : Bool, (if b then Cause.verify else 0) &&& 0x40
      = (if b then 0x40 else 0 : Byte) := by decide
  have done : Cause.done &&& 0x40 = (0 : Byte) := by decide
  show (s.window.cause ||| _ ||| _ ||| _ ||| _) &&& 0x40 = _
  simp only [or_and_byte, trip, verify, done, cause_zero]
  cases old with
  | true =>
    cases new with
    | true =>
      simp only [if_true, Bool.or_true, and_or_byte]
      rfl
    | false =>
      simp only [if_true, Bool.false_eq_true, if_false, Bool.or_false, cause_zero, and_or_byte]
  | false =>
    cases new with
    | true =>
      simp only [if_true, Bool.false_eq_true, if_false, Bool.or_true, cause_zero, and_or_byte]
    | false => simp only [Bool.false_eq_true, if_false, Bool.or_false, cause_zero]

/-! ## The answer -/

theorem usableFree_unit (x : Vector Slot 128) (reserve : Nat) : usableFree x reserve .unit
    = (List.finRange 128).countP fun i => decide (i.val < 126) && x[i].entry.isNone := by
  have free : usableFree x reserve .unit = freeCount x := rfl
  rw [free, freeCount_eq_finRange]
  exact congrArg (List.countP · (List.finRange 128)) (funext fun i => Bool.and_comm _ _)

/-- Settles O17: the two expiries, under the old length and the new, are one in the outcome. -/
theorem setLimitsAnswers : Obligations.SetLimitsAnswers := by
  unfold Obligations.SetLimitsAnswers
  refine ⟨fun x reserve => ⟨usableFree_unit x reserve, rfl⟩, ?_⟩
  rintro s reserve steps gap picture takes grants hpicture rfl rfl rfl
  have response : limitsResponse s = picture s.limits s.engine.slots := (hpicture _ _).symm
  rw [exec_setLimits s takes grants]
  refine ⟨fun run => ?_, fun hold => ⟨fun bad => ?_, fun reserve steps gap => ⟨fun full => ?_,
    fun room => ?_⟩⟩⟩
  · rw [workSetLimits_refused s 0x03 (limitsCheck_run run) (by decide), response]
  · rw [workSetLimits_refused s 0x02 (limitsCheck_badArgument hold bad) (by decide), response]
  · have conflict := limitsCheck_inRange (u := s.atGrant 0x23) hold reserve steps gap
    rw [workSetLimits_refused s 0x0F (conflict.trans (if_pos full)) (by decide), response]
  · have ok := (limitsCheck_inRange (u := s.atGrant 0x23) hold reserve steps gap).trans
      (if_neg (Nat.not_lt.mpr room))
    have expired := dueUnder_or (s.atGrant 0x23) (limitsArgument s.arguments)
    refine ⟨_, congrArg _ (workSetLimits_passes _ ok), rfl, rfl, rfl,
      congrArg respOf (hpicture _ _).symm, fun i other => ?_, ?_, rfl, rfl, rfl, rfl, rfl, rfl, rfl,
      rfl, rfl, rfl, rfl, fun expires hexpires => ⟨fun due => ?_, fun not_due => ?_⟩⟩
    · exact (limitsWork_slots _ _ i).trans (if_neg fun h => other (congrArg Fin.val h).symm)
    · exact (limitsWork_slots _ _ 127).trans (if_pos rfl)
    · have past := expired.mpr (hexpires.mp due)
      exact ⟨(withLimits_verify _ _ _ _).trans (if_pos past),
        (withLimits_cause _ _ _ _).trans (if_pos past)⟩
    · have running := fun past => not_due (hexpires.mpr (expired.mp past))
      exact ⟨(withLimits_verify _ _ _ _).trans (if_neg running),
        (withLimits_cause _ _ _ _).trans (if_neg running)⟩

end Sys2Proof.Machine

/-!
Presence lost and returned: an arrival and a departure at a configured location (R71 to R74, R77,
R78), and the part entries with their LINK raise and their lapse (R81, R111, R121).
-/

namespace Sys2Proof.Machine

/-! ## What an arrival and a departure leave of the map -/

/-- An operation that moves only counts and marks leaves every presence (R55). -/
theorem Work.Steady.presences {w w' : Work} (h : Work.Steady w w') :
    w'.locs.map (·.presence) = w.locs.map (·.presence) := by
  have presences := congrArg (List.map Location.presence) h
  rw [List.map_map, List.map_map] at presences
  exact presences

theorem markAt_presences (locs : List Location) (d : Domain) (i : Nat) (b : Bool) :
    (markAt locs d i b).map (·.presence) = locs.map (·.presence) :=
  map_modify_of_same _ _ (fun _ => by cases d <;> rfl) locs i

theorem Work.restorePart_steady (w : Work) (p : LocPath) (group code : Byte) :
    Work.Steady w (w.restorePart p group code) := (w.restore_silent _).steady

theorem Work.raisePart_steady (w : Work) (p : LocPath) (group code : Byte) (detail : List Byte) :
    Work.Steady w (w.raisePart p group code detail).1 := raise_steady w _

theorem Work.arriveKind_steady (w : Work) (l : Location) (installed : Byte) :
    Work.Steady w (w.arriveKind l installed) := by
  unfold Work.arriveKind
  split
  · exact restorePart_steady w _ _ _
  · exact raisePart_steady w _ _ _ _

theorem Work.arriveReturn_steady (w : Work) (l : Location) (silent : Bool) :
    Work.Steady w (w.arriveReturn l silent) := by
  unfold Work.arriveReturn
  split
  · exact raisePart_steady w _ _ _ _
  · exact .refl w

/-- Of the presences, an arrival moves that of its own record alone (R71). -/
theorem Work.arrive_presences (w : Work) (i : Nat) (l : Location) (installed : Byte) :
    (w.arrive i l installed).locs.map (·.presence)
      = (setPresence w.locs i (if kindMatches l installed then .present else .foreign)).map
          (·.presence) := by
  have restored := ((restorePart_steady { w with locs := markAt (setPresence w.locs i
      (if kindMatches l installed then .present else .foreign)) .field i false } l.path 1 1).trans
    (restorePart_steady _ l.path 1 2)).trans (restorePart_steady _ l.path 2 0)
  have steady := (restored.trans (arriveKind_steady _ l installed)).trans
    (arriveReturn_steady _ l (findKey w.slots ⟨l.path, 2, 0⟩).isSome)
  exact steady.presences.trans (markAt_presences _ _ _ _)

/-- Of the presences, a departure moves that of its own record alone (R77). -/
theorem Work.depart_presences (w : Work) (i : Nat) (p : LocPath) (code : Byte) :
    (w.depart i p code).locs.map (·.presence)
      = (setPresence w.locs i .absent).map (·.presence) := by
  have restored := restorePart_steady { w with locs := setPresence w.locs i .absent } p 4 0
  unfold Work.depart
  dsimp only
  split
  · exact restored.presences
  · exact (restored.trans (raisePart_steady _ p 1 code [])).presences

/-! ## The steps of an arrival -/

theorem kindMatches_iff (l : Location) (installed : Byte) :
    kindMatches l installed = true ↔ l.kind = 0 ∨ l.kind = installed := by
  unfold kindMatches
  rw [Bool.or_eq_true, beq_iff_eq, beq_iff_eq]

theorem arrivalPresence_eq (l : Location) (installed : Byte) :
    (if kindMatches l installed then Presence.present else .foreign)
      = if l.kind = 0 ∨ l.kind = installed then .present else .foreign := by
  simp only [kindMatches_iff]

/-- MISMATCH restored on a match, raised otherwise (R72, R74). -/
theorem Work.arriveKind_eq (w : Work) (l : Location) (installed : Byte) :
    w.arriveKind l installed
      = if l.kind = 0 ∨ l.kind = installed then (w.restore ⟨l.path, 4, 0⟩).1
        else (w.raise ⟨⟨l.path, 4, 0⟩, [installed, l.kind], .part⟩).1 := by
  unfold Work.arriveKind
  simp only [kindMatches_iff]
  rfl

/-- RETURN raised by the presence before the arrival (R73). -/
theorem Work.arriveReturn_eq (w : Work) (l : Location) (silent : Bool) :
    w.arriveReturn l silent
      = if l.presence = .absent then (w.raise ⟨⟨l.path, 3, 1⟩, [], .part⟩).1
        else if l.presence = .unverified ∧ silent = true
          then (w.raise ⟨⟨l.path, 3, 2⟩, [], .part⟩).1
        else w := by
  unfold Work.arriveReturn
  cases l.presence with
  | absent => rfl
  | unverified => cases silent <;> rfl
  | present => rfl
  | foreign => rfl

theorem reportArrive_configured (w : Work) (r : Report) {i : Nat} {l : Location}
    (found : configured w.locs r.path = some i) (record : w.locs[i]? = some l) :
    w.reportArrive r = (w.arrive i l r.code, .accepted) := by
  unfold Work.reportArrive
  simp only [found, record]

theorem reportDepart_configured (w : Work) (r : Report) {i : Nat}
    (found : configured w.locs r.path = some i) :
    w.reportDepart r = (w.depart i r.path 1, .accepted) := by
  unfold Work.reportDepart
  rw [found]

/-! ## Reports of presence at a configured location -/

/-- The map after a report entry is the one its work leaves (R16). -/
theorem workedReport_locs {s t : State} {r : Report} {w : Work} {v : Verdict}
    (h : workedReport s t r w v) : t.topo.locs = w.locs := by
  obtain ⟨⟨_, ⟨_, _, _, locs, _⟩, _⟩, _⟩ := h
  exact locs

/-- Settles O49: the steps of `Work.arrive` in their order, only the first of which moves a
presence. -/
theorem arrivalAtConfiguredLocation : Obligations.ArrivalAtConfiguredLocation := by
  unfold Obligations.ArrivalAtConfiguredLocation
  intro s r rest i l w1 w2 w3 w4 live grant queue kind passes found record h1 h2 h3 h4
  have arrived : (taking s).arrive i l r.code = w4 := by
    rw [h4, h3, h2, h1, ← arrivalPresence_eq, ← Work.arriveKind_eq]
    exact Work.arriveReturn_eq _ l _
  have worked := answerWith_worked s r _ (·.reportArrive r) passes
  rw [reportArrive_configured (taking s) r found record, arrived] at worked
  refine ⟨_, congrArg Host.Outcome.next
    (reportStep_granted 3 workReportArrive s r rest live grant queue kind), worked, ?_⟩
  have presences := Work.arrive_presences (taking s) i l r.code
  rw [arrived, arrivalPresence_eq] at presences
  exact (congrArg (List.map Location.presence) (workedReport_locs worked)).trans presences

/-- Settles O50: the steps of `Work.depart` in their order, only the first of which moves a
presence. -/
theorem departureOfConfiguredLocation : Obligations.DepartureOfConfiguredLocation := by
  unfold Obligations.DepartureOfConfiguredLocation
  rintro s r rest i w1 w2 w3 live grant queue kind passes found rfl rfl h3
  have departed : (taking s).depart i r.path 1 = w3 := h3.symm
  have worked := answerWith_worked s r _ (·.reportDepart r) passes
  rw [reportDepart_configured (taking s) r found, departed] at worked
  refine ⟨_, congrArg Host.Outcome.next
    (reportStep_granted 4 workReportDepart s r rest live grant queue kind), worked, ?_⟩
  have presences := Work.depart_presences (taking s) i r.path 1
  rw [departed] at presences
  exact (congrArg (List.map Location.presence) (workedReport_locs worked)).trans presences

/-! ## Part entries -/

/-- The causes after a hand-off: those before it and those of the work (R16, R150). -/
theorem handOff_cause (s : State) (w : Work) :
    (handOff s w).window.cause = s.window.cause ||| workCauses s w := by
  unfold workCauses
  rw [← BitVec.or_assoc, ← BitVec.or_assoc]
  rfl

/-- A granted request worked, its work handed off (R14, R16). -/
theorem worked_handOff (src : Source) (s : State) (w : Work) :
    worked src s (handOff (granted src s) w) w := by
  have cause : (handOff (granted src s) w).window.cause = s.window.cause ||| workCauses s w :=
    handOff_cause (granted src s) w
  refine ⟨⟨rfl, rfl, rfl, rfl, ?_, rfl, rfl, rfl, rfl, rfl, rfl, rfl, rfl⟩,
    ⟨rfl, rfl, rfl, rfl, rfl⟩, rfl, ?_⟩
  · rw [cause]
    exact cause_kept _ _
  · rw [← cause]
    rfl

theorem Agent.setWaiting_eq (a : Byte) (b : Bool) :
    Agent.setWaiting a b = fun x => if x.address = a then { x with waiting := b } else x := by
  funext x
  simp only [Agent.setWaiting, beq_iff_eq]

/-- A part entry worked, its work handed off and its answer given (R16, R111). -/
theorem workedPart_dequeue (s : State) (a : Byte) (w : Work) :
    workedPart s (dequeue a (handOff (granted .link s) w)) a w := by
  refine ⟨worked_handOff .link s w, rfl, ?_⟩
  rw [dequeue_link, Agent.setWaiting_eq]
  rfl

theorem homeIndex_of {s : State} {a : Byte} {x : Agent}
    (hx : findAgent s.link.roster a = some x) : homeIndex s a = x.home := by
  unfold homeIndex
  rw [hx]

theorem linkGranted_true (s : State) (live : s.live = true) (grant : s.nextGrant = some .link) :
    s.linkGranted = true := by
  unfold State.linkGranted
  rw [live, grant]
  rfl

section
variable {s : State} {a : Byte} {linkCode : Option Byte} {lapse : Bool} {rest : List LinkEntry}

theorem exec_lapseRequest (linked : s.linkGranted = true)
    (queue : s.link.queue = .part a linkCode lapse :: rest) (carries : lapse = true) :
    exec .lapseRequest s = .next (workPart a linkCode lapse (granted .link s)) := by
  show execLapseRequest s = _
  unfold execLapseRequest
  rw [queue]
  exact congrArg _ (if_pos (Bool.and_eq_true_iff.mpr ⟨carries, linked⟩))

theorem exec_linkRaise (linked : s.linkGranted = true)
    (queue : s.link.queue = .part a linkCode lapse :: rest) (carries : linkCode.isSome = true) :
    exec .linkRaise s = .next (workPart a linkCode lapse (granted .link s)) := by
  show execLinkRaise s = _
  unfold execLinkRaise
  rw [queue]
  exact congrArg _ (if_pos (Bool.and_eq_true_iff.mpr ⟨carries, linked⟩))

end

/-- Settles O51: both steps work the entry by `workPart`, the LINK raise and then the lapse. -/
theorem partEntriesAreWorkedWhole : Obligations.PartEntriesAreWorkedWhole := by
  unfold Obligations.PartEntriesAreWorkedWhole
  rintro s a x linkCode lapse rest w1 w2 live grant queue hx h1 rfl w hw
  have linked := linkGranted_true s live grant
  have raised : (taking s).partLink (homePath s a) linkCode = w1 := by
    rw [h1]
    cases linkCode <;> rfl
  have lapsed : ((taking s).partLink (homePath s a) linkCode).partLapse (homeIndex s a)
      (homePath s a) lapse = w := by
    rw [hw, raised, homeIndex_of hx]
    rfl
  have worked : workedPart s (workPart a linkCode lapse (granted .link s)) a w :=
    lapsed ▸ workedPart_dequeue s a _
  exact ⟨fun carries => ⟨_, exec_lapseRequest linked queue carries, worked⟩,
    fun carries => ⟨_, exec_linkRaise linked queue carries, worked⟩⟩

end Sys2Proof.Machine

/-!
Space in the table: a creation without room is refused, with the TABLE FULL raise that follows, or
takes the place of the oldest displacement candidate (R89 to R93).
-/

namespace Sys2Proof.Machine

/-! ## The anchor looks at the paths alone -/

theorem configured_eq_paths (locs : List Location) (p : LocPath) : configured locs p
    = if p.hasChannel then none else (locs.map (·.path)).findIdx? (· == p) := by
  unfold configured
  rw [List.findIdx?_map]
  rfl

theorem anchorUpTo_congr {locs locs' : List Location}
    (h : locs'.map (·.path) = locs.map (·.path)) (n : Nat) (p : LocPath) :
    anchorUpTo locs' n p = anchorUpTo locs n p := by
  induction n generalizing p with
  | zero => rfl
  | succ n ih =>
    unfold anchorUpTo
    rw [configured_eq_paths locs', h, ← configured_eq_paths locs, ih]

/-- An operation that moves only counts and marks leaves every anchor (R50). -/
theorem Work.Steady.anchorOf {w w' : Work} (h : Work.Steady w w') (p : LocPath) :
    anchorOf w'.locs p = anchorOf w.locs p := by
  have paths := congrArg (List.map Location.path) h
  rw [List.map_map, List.map_map] at paths
  exact anchorUpTo_congr paths 5 p

/-- The root anchors its own path (R49, R50). -/
theorem anchorOf_root (locs : List Location) (root : Location) (first : locs[0]? = some root)
    (path : root.path = LocPath.root) : anchorOf locs LocPath.root = 0 := by
  have found : configured locs LocPath.root = some 0 := by
    cases locs with
    | nil => cases first
    | cons l rest =>
      cases first
      rw [configured_eq_paths, List.map_cons, List.findIdx?_cons, path]
      rfl
  unfold anchorOf anchorUpTo
  rw [found]

/-! ## A creation without usable room -/

theorem oldest_eq_none (slots : Vector Slot 128) (p : Fin 128 → Entry → Bool) (l : List (Fin 128))
    (h : ∀ (i : Fin 128) (e : Entry), slots[i].entry = some e → p i e = false) :
    oldest slots p l = none := by
  cases found : oldest slots p l with
  | none => rfl
  | some q =>
    obtain ⟨_, e, he, hp, _⟩ := oldest_some slots p l q.1 q.2 found
    exact absurd (hp.symm.trans (h q.1 e he)) (by decide)

/-- The entry whose sequence lies below those of all others that satisfy p is the oldest (R90). -/
theorem oldest_of_least (slots : Vector Slot 128) (p : Fin 128 → Entry → Bool)
    (l : List (Fin 128)) (i : Fin 128) (e : Entry) (hi : i ∈ l) (he : slots[i].entry = some e)
    (hp : p i e = true)
    (least : ∀ (j : Fin 128) (f : Entry), slots[j].entry = some f → p j f = true → j ≠ i →
      e.seq < f.seq) : ∃ n, oldest slots p l = some (i, n) := by
  cases found : oldest slots p l with
  | none => exact absurd (hp.symm.trans (oldest_none slots p l found i hi e he)) (by decide)
  | some q =>
    obtain ⟨j, n⟩ := q
    obtain ⟨_, f, hf, hpf, hn⟩ := oldest_some slots p l j n found
    have below := oldest_le slots p l j n found i hi e he hp
    have same : j = i := by
      by_contra other
      have above := least j f hf hpf other
      omega
    exact ⟨n, same ▸ rfl⟩

/-- The raise creates an entry of its own, for which there is no usable room: the key is new and
no TABLE FULL key, and a sequence is left (R8, R17, R89). -/
structure Work.NoRoom (w : Work) (r : Raise) : Prop where
  general : ∀ d, r.key ≠ tableFullKey d
  fresh : findKey w.slots r.key = none
  counter : w.seqNext ≤ Config.lastSequence
  room : usableFree w.slots w.reserve (w.group r.key.group).domain = 0

/-- Without usable room the oldest candidate is displaced, and without a candidate the creation is
refused (R89). -/
theorem Work.NoRoom.raise {w : Work} {r : Raise} (h : w.NoRoom r) :
    (oldest w.slots (displaceable (w.group r.key.group).domain) indices = none →
      w.raise r = (w.refuseFull (w.group r.key.group).domain (anchorOf w.locs r.key.path), .full))
    ∧ ∀ i n, oldest w.slots (displaceable (w.group r.key.group).domain) indices = some (i, n) →
      w.raise r = (w.displace r i, .created) := by
  obtain ⟨general, fresh, counter, room⟩ := h
  have created : w.raise r = w.createInRoom r := by
    unfold Work.raise
    rw [fresh]
    exact if_neg (Nat.not_lt.mpr counter)
  rw [created]
  unfold Work.createInRoom
  dsimp only
  rw [if_neg (general .unit), if_neg (general .field), room, if_neg (Nat.lt_irrefl 0)]
  exact ⟨fun none => by rw [none], fun i n some => by rw [some]⟩

/-! ## The TABLE FULL raise -/

/-- The raise of a domain's TABLE FULL condition, made by the part (R92, R93). -/
def tableFullRaise (d : Domain) : Raise := ⟨tableFullKey d, [], .part⟩

theorem Work.raiseTableFull_fresh (w : Work) (d : Domain)
    (fresh : findKey w.slots (tableFullKey d) = none) (counter : w.seqNext ≤ Config.lastSequence) :
    w.raiseTableFull d = w.create (tableFullRaise d) (tableFullIndex d) := by
  unfold Work.raiseTableFull
  dsimp only
  rw [fresh]
  exact if_neg (Nat.not_lt.mpr counter)

theorem Work.raiseTableFull_standing (w : Work) (d : Domain) (i : Fin 128) (e : Entry)
    (found : findKey w.slots (tableFullKey d) = some i) (he : w.entry i = some e) :
    w.raiseTableFull d = (w.raiseStanding (tableFullRaise d) i e).1 := by
  unfold Work.raiseTableFull
  dsimp only
  rw [found]
  dsimp only
  rw [he]
  rfl

section
variable (w : Work) (r : Raise) (e : Entry)

/-- A group whose burst counting is off escalates nothing (R41). -/
theorem Work.escalatesBy_off (off : (w.group e.key.group).burstThreshold = 0) :
    w.escalatesBy e = false := by
  unfold Work.escalatesBy escalates
  rw [off]
  rfl

/-- A repeat that does not escalate and brings no detail (R20). -/
theorem Work.repeatedEntry_quiet (quiet : w.escalatesBy e = false) (bare : r.detail = []) :
    w.repeatedEntry r e = w.raisedEntry r e e.state e.executed e.escalated e.detail := by
  unfold Work.repeatedEntry Raise.detailOver
  rw [quiet, bare, Bool.or_false]
  rfl

/-- A reactivation that does not escalate and brings no detail (R21). -/
theorem Work.reactivatedEntry_quiet (quiet : w.escalatesBy e = false) (bare : r.detail = []) :
    w.reactivatedEntry r e = w.raisedEntry r e .activeUnack
      (executedAction (w.group e.key.group) w.mode e.logged e.escalated) e.escalated e.detail := by
  unfold Work.reactivatedEntry Raise.detailOver
  rw [quiet, bare, Bool.or_false]
  rfl

end

/-- Group 6 as it is fixed for TABLE FULL: not momentary, and burst counting off (R33). -/
structure Work.FullPolicy (w : Work) : Prop where
  lasting : (w.group 6).momentary = false
  off : (w.group 6).burstThreshold = 0

/-- The TABLE FULL entry as it is created: at the root, and active (R19, R93). -/
def Work.newFull (w : Work) (d : Domain) : Entry :=
  { seq := w.seqNext, key := tableFullKey d, anchor := 0, domain := (w.group 6).domain,
    state := .activeUnack, logged := (w.group 6).logged,
    executed := executedAction (w.group 6) w.mode (w.group 6).logged false, escalated := false,
    latching := (w.group 6).latching, origin := .part, occ := 1, first := w.now, last := w.now,
    burstStart := w.now, burstCount := 1, detail := [], sweepMark := false }

/-- The TABLE FULL entry after its raise found it standing (R20, R21, R93). -/
def Work.fullAgain (w : Work) (d : Domain) (e : Entry) (state : EntryState) (executed : Action) :
    Entry :=
  w.raisedEntry (tableFullRaise d) e state executed e.escalated e.detail

/-- A TABLE FULL entry created where none stood (R19). -/
structure Work.FullCreated (w w' : Work) (d : Domain) (e' : Entry) : Prop where
  entry : e' = w.newFull d
  seqNext : w'.seqNext = w.seqNext + 1
  locs : w'.locs = countUp w.locs 0
  events : w'.events = w.events ++ [⟨.creation, (w.group 6).domain, (w.group 6).summaryBit⟩]

/-- An active TABLE FULL entry raised again (R20). -/
structure Work.FullRepeated (w w' : Work) (d : Domain) (e e' : Entry) : Prop where
  entry : e' = w.fullAgain d e e.state e.executed
  locs : w'.locs = w.locs
  events : w'.events = w.events

/-- A cleared TABLE FULL entry raised again (R21). -/
structure Work.FullReactivated (w w' : Work) (d : Domain) (e e' : Entry) : Prop where
  entry : e' = w.fullAgain d e .activeUnack
    (executedAction (w.group 6) w.mode e.logged e.escalated)
  locs : w'.locs = countUp w.locs e.anchor
  events : w'.events = w.events ++ [⟨.reactivation, e.domain, (w.group 6).summaryBit⟩]

/-- What the TABLE FULL raise leaves, by what stands at the reserved index (R93). -/
structure Work.FullRaised (w w' : Work) (d : Domain) (e' : Entry) : Prop where
  place : Work.RaisedAt w w' (tableFullIndex d) e'
  seqSpent : w'.seqSpent = w.seqSpent
  created : w.entry (tableFullIndex d) = none → w.FullCreated w' d e'
  seqNext : ∀ e, w.entry (tableFullIndex d) = some e → w'.seqNext = w.seqNext
  repeated : ∀ e, w.entry (tableFullIndex d) = some e → e.state ≠ .clearedUnack →
    w.FullRepeated w' d e e'
  reactivated : ∀ e, w.entry (tableFullIndex d) = some e → e.state = .clearedUnack →
    w.FullReactivated w' d e e'

section
variable {w : Work} {d : Domain}

theorem Work.newEntry_tableFull {root : Location} (policy : w.FullPolicy)
    (first : w.locs[0]? = some root) (path : root.path = LocPath.root) :
    w.newEntry (tableFullRaise d) = w.newFull d := by
  have anchor : anchorOf w.locs (tableFullRaise d).key.path = 0 :=
    anchorOf_root w.locs root first path
  have group : w.group (tableFullRaise d).key.group = w.group 6 := rfl
  unfold Work.newEntry
  dsimp only
  rw [anchor, group, policy.lasting]
  rfl

theorem Work.fullRaised_of_free {root : Location} (policy : w.FullPolicy)
    (counter : w.seqNext ≤ Config.lastSequence) (first : w.locs[0]? = some root)
    (path : root.path = LocPath.root) (free : w.entry (tableFullIndex d) = none)
    (absent : findKey w.slots (tableFullKey d) = none) :
    ∃ e', Work.FullRaised w (w.raiseTableFull d) d e' := by
  have made : w.newEntry (tableFullRaise d) = w.newFull d := newEntry_tableFull policy first path
  have locs : (w.create (tableFullRaise d) (tableFullIndex d)).locs = countUp w.locs 0 := by
    show (if (w.newEntry (tableFullRaise d)).state.active then
      countUp w.locs (w.newEntry (tableFullRaise d)).anchor else w.locs) = _
    rw [made]
    rfl
  rw [w.raiseTableFull_fresh d absent counter]
  exact ⟨_, w.create_raisedAt (tableFullRaise d) (tableFullIndex d), rfl,
    fun _ => ⟨made, rfl, locs, rfl⟩, fun _ he => (nomatch free.symm.trans he),
    fun _ he => (nomatch free.symm.trans he), fun _ he => (nomatch free.symm.trans he)⟩

theorem Work.fullRaised_of_active {e : Entry} (policy : w.FullPolicy)
    (found : findKey w.slots (tableFullKey d) = some (tableFullIndex d))
    (he : w.entry (tableFullIndex d) = some e) (key : e.key = tableFullKey d)
    (active : e.state ≠ .clearedUnack) :
    ∃ e', Work.FullRaised w (w.raiseTableFull d) d e' := by
  have group : e.key.group = 6 := congrArg Key.group key
  have quiet := w.escalatesBy_off e (group ▸ policy.off)
  have repeated : w.raiseTableFull d
      = w.put (tableFullIndex d) (w.fullAgain d e e.state e.executed) := by
    rw [w.raiseTableFull_standing d _ e found he, (w.raiseStanding_active _ _ e active).1]
    dsimp only
    rw [w.repeatRaise_quiet _ _ e quiet, w.repeatedEntry_quiet _ e quiet rfl]
    rfl
  rw [repeated]
  refine ⟨_, (w.put_restands _ _ w.locs).place, rfl, fun free => (nomatch free.symm.trans he), fun _ _ => rfl,
    fun f hf _ => ?_, fun f hf cleared => ?_⟩
  · obtain rfl : e = f := Option.some.inj (he.symm.trans hf)
    exact ⟨rfl, rfl, rfl⟩
  · obtain rfl : e = f := Option.some.inj (he.symm.trans hf)
    exact absurd cleared active

theorem Work.fullRaised_of_cleared {e : Entry} (policy : w.FullPolicy)
    (found : findKey w.slots (tableFullKey d) = some (tableFullIndex d))
    (he : w.entry (tableFullIndex d) = some e) (key : e.key = tableFullKey d)
    (cleared : e.state = .clearedUnack) :
    ∃ e', Work.FullRaised w (w.raiseTableFull d) d e' := by
  have group : e.key.group = 6 := congrArg Key.group key
  have quiet := w.escalatesBy_off e (group ▸ policy.off)
  have reactivated : w.raiseTableFull d = { (w.put (tableFullIndex d)
      (w.fullAgain d e .activeUnack (executedAction (w.group 6) w.mode e.logged e.escalated))).event
        .reactivation e.domain (w.group 6) with locs := countUp w.locs e.anchor } := by
    rw [w.raiseTableFull_standing d _ e found he,
      (w.raiseStanding_reactivates _ _ e cleared (group ▸ policy.lasting)).1]
    dsimp only
    rw [w.reactivateRaise_eq, w.reactivatedEntry_quiet _ e quiet rfl, quiet, group]
    rfl
  rw [reactivated]
  refine ⟨_, (w.event_restands _ _ _ _ _ _).place, rfl,
    fun free => (nomatch free.symm.trans he), fun _ _ => rfl,
    fun f hf active => ?_, fun f hf _ => ?_⟩
  · obtain rfl : e = f := Option.some.inj (he.symm.trans hf)
    exact absurd cleared active
  · obtain rfl : e = f := Option.some.inj (he.symm.trans hf)
    exact ⟨rfl, rfl, rfl⟩

/-- The TABLE FULL raise of a domain whose condition stands at its reserved index or nowhere (R93).
-/
theorem Work.raiseTableFull_raised {root : Location} (policy : w.FullPolicy)
    (counter : w.seqNext ≤ Config.lastSequence) (first : w.locs[0]? = some root)
    (path : root.path = LocPath.root)
    (only : ∀ (j : Fin 128) (f : Entry), w.entry j = some f →
      (f.key = tableFullKey d ↔ j = tableFullIndex d)) :
    ∃ e', Work.FullRaised w (w.raiseTableFull d) d e' := by
  cases he : w.entry (tableFullIndex d) with
  | none =>
    refine fullRaised_of_free policy counter first path he
      ((findKey_none _ _).mpr fun j f hf hk => ?_)
    rw [← (only j f hf).mp hk] at he
    exact Option.some_ne_none f (hf.symm.trans he)
  | some e =>
    have key : e.key = tableFullKey d := (only _ e he).mpr rfl
    have found : findKey w.slots (tableFullKey d) = some (tableFullIndex d) :=
      findKey_of_unique _ _ _ e he key fun j f hf => (only j f hf).mp
    by_cases cleared : e.state = .clearedUnack
    · exact fullRaised_of_cleared policy found he key cleared
    · exact fullRaised_of_active policy found he key cleared

end

/-! ## The answer of a RAISE-APP by its work -/

/-- No event of the Summary Unit sets the SPACE cause (R143, R146). -/
theorem applyEvents_space (events : List Event) (u : Summary) (c : Byte) :
    (events.foldl Summary.applyEvent (u, c)).2 &&& 0x08 = c &&& 0x08 := by
  induction events generalizing u c with
  | nil => rfl
  | cons v rest ih =>
    rw [List.foldl_cons, ih]
    unfold Summary.applyEvent
    dsimp only
    split
    · show (c ||| v.domain.newCause) &&& 0x08 = c &&& 0x08
      have apart : v.domain.newCause &&& 0x08 = 0 := by cases v.domain <;> rfl
      rw [BitVec.and_or_distrib_right, apart, cause_zero]
    · rfl

/-- Of the causes a granted command sets, the SPACE cause is that of a space event alone (R146). -/
theorem workCauses_space (s : State) (w : Work) (c : Byte) :
    (c ||| workCauses s w ||| 0x20) &&& 0x08 = c &&& 0x08 ||| (if w.space then 0x08 else 0) := by
  have answered : (0x20 : Byte) &&& 0x08 = 0 := rfl
  have trip : (if s.release.trips (fatalHeld w.slots) then (0x04 : Byte) else 0) &&& 0x08 = 0 := by
    split <;> rfl
  have space : (if w.space then (0x08 : Byte) else 0) &&& 0x08 = if w.space then 0x08 else 0 := by
    split <;> rfl
  have events : (w.events.foldl Summary.applyEvent (s.summary, 0)).2 &&& 0x08 = (0 : Byte) :=
    applyEvents_space _ _ _
  unfold workCauses
  simp only [BitVec.and_or_distrib_right]
  rw [answered, trip, space, events, cause_zero, cause_zero]
  exact congrArg _ BitVec.zero_or

/-- A granted command worked, its work handed off and its answer given (R14, R16, R195). -/
theorem workedCommand_handOff (s : State) (w : Work) (code result : Byte) (response : List Byte) :
    workedCommand s (complete result response (handOff (s.atGrant code) w)) w code result
      response := by
  refine ⟨answeredWith_handOff s w code result response, ⟨rfl, rfl, rfl, rfl, rfl⟩, ?_⟩
  rw [complete_window_cause, handOff_cause]
  rfl

/-- RAISE-APP past its checks answers by the outcome of its raise (R181). -/
theorem exec_raiseApp_worked (s : State) (w : Work) (out : Raised) (response : List Byte)
    (h : s.takes) (hg : s.grantsWindow) (checked : appChecked (s.atGrant 0x54))
    (raised : (taking s).raise s.arguments.appRaise = (w, out))
    (shown : (if out.result = Result.ok then keyView w.slots s.arguments.appKey else [])
      = response) :
    ∃ t, exec (.raiseApp .free) s = .next t ∧ workedCommand s t w 0x54 out.result response
      ∧ t.window.cause &&& 0x08 = s.window.cause &&& 0x08 ||| (if w.space then 0x08 else 0) := by
  have raised' : (taking (s.atGrant 0x54)).raise (s.atGrant 0x54).window.appRaise = (w, out) :=
    raised
  have worked := workedCommand_handOff s w 0x54 out.result response
  refine ⟨_, ?_, worked, ?_⟩
  · rw [exec_raiseApp s h hg, workRaiseApp_checked _ checked, raised', ← shown]
    rfl
  · obtain ⟨_, _, cause⟩ := worked
    rw [cause, workCauses_space]

/-! ## The refusal -/

/-- The refusal's work once the mark of its anchor is set, before the TABLE FULL raise (R92). -/
def Work.marked (w : Work) (d : Domain) (a : Nat) : Work :=
  { w with locs := markAt w.locs d a true }

theorem tableFullIndex_eq (d : Domain) : tableFullIndex d = if d = .unit then 126 else 127 := by
  cases d <;> rfl

theorem tableFullKey_eq (d : Domain) :
    tableFullKey d = ⟨LocPath.root, 6, if d = .unit then 1 else 2⟩ := by
  cases d <;> rfl

theorem markAt_eq (locs : List Location) (d : Domain) (a : Nat) : markAt locs d a true
    = locs.modify a (fun l =>
        if d = .unit then { l with uMark := true } else { l with fMark := true }) := by
  cases d <;> rfl

/-- A mark leaves the path of the first record. -/
theorem Work.marked_root (w : Work) (d : Domain) (a : Nat) (root : Location)
    (first : w.locs[0]? = some root) (path : root.path = LocPath.root) :
    ∃ root', (w.marked d a).locs[0]? = some root' ∧ root'.path = LocPath.root := by
  show ∃ root', (w.locs.modify a (·.setMark d true))[0]? = some root' ∧ _
  rw [List.getElem?_modify, first]
  refine ⟨_, rfl, ?_⟩
  split
  · rw [← path]
    cases d <;> rfl
  · exact path

/-- Settles O34: the TABLE FULL raise that follows the mark creates, repeats or reactivates the
entry of the reserved index. -/
theorem refusalForSpace : Obligations.RefusalForSpace := by
  unfold Obligations.RefusalForSpace
  refine ⟨fun w r d i g6 root hd hi hg6 lasting off first path general fresh counter room
    noCandidate full => ?_, fun s r w h hg hr path low high length enabled raised => ?_⟩
  · subst hg6
    obtain rfl : i = tableFullIndex d := hi.trans (tableFullIndex_eq d).symm
    rw [← tableFullKey_eq] at full ⊢
    have noRoom : w.NoRoom r := ⟨general, (findKey_none _ _).mpr fresh, counter, hd ▸ room⟩
    have refused := noRoom.raise.1 (hd ▸ oldest_eq_none _ _ _ noCandidate)
    rw [← hd] at refused
    obtain ⟨root', first', path'⟩ := w.marked_root d (anchorOf w.locs r.key.path) root first path
    obtain ⟨e', raised⟩ := Work.raiseTableFull_raised (w := w.marked d (anchorOf w.locs r.key.path))
      ⟨lasting, off⟩ counter first' path' full
    refine ⟨_, e', _, refused, rfl, raised.place.self, raised.place.others, raised.seqSpent,
      markAt_eq _ _ _, fun free => ?_, fun e he => ⟨raised.seqNext e he, ?_, fun active => ?_,
      fun cleared => ?_⟩⟩
    · obtain ⟨entry, seqNext, locs, events⟩ := raised.created free
      exact ⟨entry, seqNext, locs, events⟩
    · by_cases cleared : e.state = .clearedUnack
      · rw [(raised.reactivated e he cleared).entry]
        rfl
      · rw [(raised.repeated e he cleared).entry]
        rfl
    · obtain ⟨rfl, locs, events⟩ := raised.repeated e he active
      exact ⟨rfl, rfl, locs, events⟩
    · obtain ⟨rfl, locs, events⟩ := raised.reactivated e he cleared
      exact ⟨rfl, rfl, locs, events⟩
  · subst hr
    exact exec_raiseApp_worked s w .full [] h hg (appChecked_of s path low high length enabled)
      raised rfl

/-! ## The displacement -/

theorem displaceable_iff (d : Domain) (i : Fin 128) (e : Entry) : displaceable d i e = true ↔
    i.val < 126 ∧ e.domain = d ∧ e.state = .clearedUnack ∧ e.executed = .notice
      ∧ e.latching = false := by
  unfold displaceable
  simp only [Bool.and_eq_true, decide_eq_true_eq, beq_iff_eq, Bool.not_eq_true', and_assoc]
  rfl

/-- A retirement leaves all that the entry of a creation is made from (R26, R19). -/
theorem Work.newEntry_retire (w : Work) (r : Raise) (i : Fin 128) :
    (w.retire i).newEntry r = w.newEntry r := by
  have silent := w.retire_silent i
  have taken := sameTaking_of_touches (w.retire_touches i)
  unfold Work.newEntry
  rw [group_of_sameTaking taken, silent.steady.anchorOf, silent.seqNext, taken.mode, taken.now]

/-- Settles O35: the oldest candidate is the one of lowest sequence, and its retirement leaves what
the new entry is made from. -/
theorem displacementReusesOldest : Obligations.DisplacementReusesOldest := by
  unfold Obligations.DisplacementReusesOldest
  refine ⟨displaceable_iff,
    fun w r g i e hgroup general fresh counter room he candidate least => ?_,
    fun s r w i e h hg hr path low high length enabled raised he key unique => ?_⟩
  · subst hgroup
    have noRoom : w.NoRoom r := ⟨general, (findKey_none _ _).mpr fresh, counter, room⟩
    obtain ⟨n, found⟩ := oldest_of_least _ _ indices i e (List.mem_finRange i) he candidate least
    have silent := w.retire_silent i
    have group := Work.group_of_sameTaking (Work.sameTaking_of_touches (w.retire_touches i))
      r.key.group
    have self : (w.displace r i).slots[i] = ⟨w.slots[i].gen + 1, some (w.newEntry r)⟩ := by
      rw [← w.newEntry_retire r i]
      refine ((w.retire i).slots_create r i i).trans ?_
      rw [if_pos rfl, w.slots_retire_self i e he]
    have others : ∀ j : Fin 128, j ≠ i → j.val < 126 → (w.displace r i).slots[j] = w.slots[j] :=
      fun j other general => ((w.retire i).slots_create r i j).trans
        ((if_neg (Ne.symm other)).trans (w.slots_retire_general i j other general))
    have events : (w.displace r i).events = w.events ++ [⟨.creation,
        (w.group r.key.group).domain, (w.group r.key.group).summaryBit⟩] := by
      show (w.retire i).events ++ [⟨.creation, ((w.retire i).group r.key.group).domain,
        ((w.retire i).group r.key.group).summaryBit⟩] = _
      rw [silent.events, group]
    exact ⟨_, noRoom.raise.2 i n found, self, congrArg (· + 1) silent.seqNext, silent.seqSpent, rfl,
      events, others⟩
  · subst hr
    have found := findKey_of_unique w.slots _ i e he key unique
    exact exec_raiseApp_worked s w .created _ h hg (appChecked_of s path low high length enabled)
      raised ((if_pos rfl).trans (keyView_found _ _ i _ e found (by rw [← he])))

end Sys2Proof.Machine

/-!
The steps of the report link (R104, R105, R112, R113, R124): what each row of the link answers with
in each case, what the end of an exchange leaves, the rounds, and the levels of the line.
-/

namespace Sys2Proof.Machine

/-! ## The rows of the link by their cases -/

section
variable {s : State} {x : Exchange}

/-- Where no POLL is sent the part listens (R104, R126). -/
theorem listens_of_clocked (clocked : s.clocked = true) (line : s.link.line ≠ .sending) :
    s.listens = true := by
  unfold State.listens
  rw [clocked, Bool.true_and, bne_iff_ne]
  exact line

/-- Bytes that no exchange awaits are discarded (R126). -/
theorem exec_replyJudge_alone (stop : Bool) (bytes : List Byte) (listens : s.listens = true)
    (hx : s.link.exchange = none) :
    exec (.replyJudge stop bytes) s = .next (discardBytes bytes s) := by
  show execReplyJudge stop bytes s = _
  unfold execReplyJudge
  rw [if_pos listens, hx]

/-- Bytes that follow a judged reply are discarded (R105). -/
theorem exec_replyJudge_judged (stop : Bool) (bytes : List Byte) (listens : s.listens = true)
    (hx : s.link.exchange = some x) (judged : x.judged = true) :
    exec (.replyJudge stop bytes) s = .next (discardBytes bytes s) := by
  show execReplyJudge stop bytes s = _
  unfold execReplyJudge
  rw [if_pos listens, hx]
  dsimp only
  rw [if_pos judged]

/-- A reply of at most 22 bytes is judged, and its exchange is over (R105, R114). -/
theorem exec_replyJudge_short (stop : Bool) (bytes : List Byte) (listens : s.listens = true)
    (hx : s.link.exchange = some x) (judged : x.judged = false) (short : bytes.length ≤ 22) :
    exec (.replyJudge stop bytes) s
      = .next (endExchange (judgedReply x (judgeFrame x.agent stop bytes) s)) := by
  show execReplyJudge stop bytes s = _
  unfold execReplyJudge workReplyJudge
  rw [if_pos listens, hx]
  dsimp only
  rw [if_neg (by simp [judged]),
    if_neg (show ¬Config.frameMax < bytes.length from Nat.not_lt.mpr short)]

/-- A reply is judged at its 23rd byte, and its exchange holds the line (R105, R114). -/
theorem exec_replyJudge_long (stop : Bool) (bytes : List Byte) (listens : s.listens = true)
    (hx : s.link.exchange = some x) (judged : x.judged = false) (long : 22 < bytes.length) :
    exec (.replyJudge stop bytes) s
      = .next (holdLine x (judgedReply x (judgeFrame x.agent stop bytes) s)) := by
  show execReplyJudge stop bytes s = _
  unfold execReplyJudge workReplyJudge
  rw [if_pos listens, hx]
  dsimp only
  rw [if_neg (by simp [judged]), if_pos (show Config.frameMax < bytes.length from long)]

/-- An exchange whose reply is judged has no reply window any longer (R105). -/
theorem exec_replyWindowClose_judged (hx : s.link.exchange = some x) (judged : x.judged = true) :
    exec .replyWindowClose s = .next s := by
  show execReplyWindowClose s = _
  unfold execReplyWindowClose
  rw [hx]
  dsimp only
  rw [if_neg (by simp [judged])]

/-- The reply window of an exchange that still awaits its reply closes (R105). -/
theorem exec_replyWindowClose_unjudged (listens : s.listens = true)
    (hx : s.link.exchange = some x) (judged : x.judged = false) :
    exec .replyWindowClose s = .next (workReplyWindowClose x s) := by
  show execReplyWindowClose s = _
  unfold execReplyWindowClose
  rw [hx]
  dsimp only
  rw [if_pos (by rw [listens, judged]; rfl)]

end

/-! ## What the outcome of an exchange leaves of the round -/

/-- The round stands where it stood, and POLL_GAP is the same. -/
structure SameRound (s t : State) : Prop where
  phase : t.link.phase = s.link.phase
  position : t.link.position = s.link.position
  limits : t.limits = s.limits

theorem SameRound.refl (s : State) : SameRound s s := by constructor <;> rfl

theorem SameRound.trans {s u t : State} (h : SameRound s u) (h' : SameRound u t) : SameRound s t :=
  ⟨h'.phase.trans h.phase, h'.position.trans h.position, h'.limits.trans h.limits⟩

theorem withAgent_round (a : Byte) (f : Agent → Agent) (s : State) :
    SameRound s (withAgent a f s) := by constructor <;> rfl

theorem enqueue_round (a : Byte) (e : LinkEntry) (s : State) : SameRound s (enqueue a e s) := by
  constructor <;> rfl

theorem miss_round (a : Byte) (code : Option Byte) (s : State) : SameRound s (miss a code s) := by
  unfold miss
  split
  · exact .refl s
  · dsimp only
    split <;> split <;> constructor <;> rfl

theorem newReport_round (r : Report) (s : State) : SameRound s (newReport r s) := by
  unfold newReport
  split
  · exact withAgent_round _ _ s
  · split
    · exact withAgent_round _ _ s
    · exact (withAgent_round _ _ s).trans (enqueue_round _ _ _)

theorem judgedReport_round (r : Report) (s : State) : SameRound s (judgedReport r s) := by
  unfold judgedReport
  split
  · exact .refl s
  · dsimp only
    split
    · exact withAgent_round _ _ s
    · exact (withAgent_round _ _ s).trans (newReport_round r _)

theorem judgedBusy_round (j : Judged) (s : State) : SameRound s (judgedBusy j s) := by
  unfold judgedBusy
  split
  · exact .refl s
  · exact .refl s
  · split
    · exact .refl s
    · split
      · exact withAgent_round _ _ s
      · exact .refl s

theorem judgedReply_round (x : Exchange) (j : Judged) (s : State) :
    SameRound s (judgedReply x j s) := by
  unfold judgedReply judgedLive
  split
  · split
    · exact miss_round _ _ s
    · exact withAgent_round _ _ s
    · exact judgedReport_round _ s
  · exact judgedBusy_round j s
  · exact .refl s

/-! ## The end of an exchange -/

section
variable (s : State)

@[simp] theorem endExchange_exchange : (endExchange s).link.exchange = none := by
  obtain ⟨phase, position, h⟩ := endExchange_changes s
  rw [h]

@[simp] theorem endExchange_line : (endExchange s).link.line = .idle := by
  obtain ⟨phase, position, h⟩ := endExchange_changes s
  rw [h]

@[simp] theorem endExchange_roster : (endExchange s).link.roster = s.link.roster := by
  obtain ⟨phase, position, h⟩ := endExchange_changes s
  rw [h]

@[simp] theorem endExchange_queue : (endExchange s).link.queue = s.link.queue := by
  obtain ⟨phase, position, h⟩ := endExchange_changes s
  rw [h]

/-- The end of an exchange moves the link alone. -/
theorem endExchange_beside : endExchange s = { s with link := (endExchange s).link } := by
  obtain ⟨phase, position, h⟩ := endExchange_changes s
  rw [h]

end

/-- Without a reply, or with one of at most 22 bytes, an exchange ends with the round where it stood
(R105). -/
theorem exec_endsExchange {s : State} {x : Exchange} {i : Instr} (listens : s.listens = true)
    (hx : s.link.exchange = some x)
    (hi : (i = .replyWindowClose ∧ x.judged = false)
      ∨ ∃ stop bytes, i = .replyJudge stop bytes ∧ bytes.length ≤ 22) :
    ∃ u, SameRound s u ∧ exec i s = .next (endExchange u) := by
  rcases hi with ⟨rfl, judged⟩ | ⟨stop, bytes, rfl, short⟩
  · rw [exec_replyWindowClose_unjudged listens hx judged]
    unfold workReplyWindowClose
    split
    · exact ⟨_, miss_round _ _ s, rfl⟩
    · exact ⟨s, .refl s, rfl⟩
  · cases judged : x.judged with
    | true =>
      refine ⟨s, .refl s, ?_⟩
      rw [exec_replyJudge_judged stop bytes listens hx judged, discardBytes_short bytes s short, hx]
      rfl
    | false =>
      exact ⟨_, judgedReply_round x _ s, exec_replyJudge_short stop bytes listens hx judged short⟩

/-! ## Rounds -/

/-- The first agent left that is not pending is come to; with none the gap begins at the end of the
roster (R112). -/
theorem comeToNext_comesTo (s : State) :
    (∀ x : Agent, (agentsLeft s.link).find? (fun y => !y.waiting) = some x →
      (comeToNext s).link.phase = .calling ∧ (comeToNext s).link.position = some x.address)
    ∧ ((∀ y ∈ agentsLeft s.link, y.waiting = true) →
      (comeToNext s).link.phase = .gap s.limits.pollGap
        ∧ (comeToNext s).link.position = (comeToNext s).link.roster.getLast?.map (·.address)) := by
  refine ⟨fun x hx => ?_, fun pending => ?_⟩
  · rw [comeToNext_to s x hx]
    exact ⟨rfl, rfl⟩
  · rw [comeToNext_over s pending]
    exact ⟨rfl, rfl⟩

/-- A round that is due begins at the start of the roster (R112, R124). -/
theorem exec_roundStart_due {s : State} (clocked : s.clocked = true) (polls : s.polls = true)
    (starts : s.link.roundStarts = true) :
    exec .roundStart s = .next (comeToNext { s with link.position := none }) := by
  show execRoundStart s = _
  unfold execRoundStart
  rw [if_pos (by rw [clocked, polls, starts]; rfl)]

theorem roundStarts_of_due (l : Link)
    (h : l.phase = .due ∨ ((l.phase = .dueAfter ∨ l.phase = .gap 0) ∧ l.exchange = none)) :
    l.roundStarts = true := by
  unfold Link.roundStarts
  rcases h with due | ⟨after | gap, free⟩
  · rw [due]
  · rw [after, free]
    rfl
  · rw [gap, free]
    rfl

theorem polls_of_loaded {s : State} (loaded : s.topo.state = .loaded)
    (roster : s.link.roster ≠ []) : s.polls = true := by
  unfold State.polls
  simp [loaded, roster]

/-- Settles O42: the start of a round and the end of an exchange both come to the next agent left,
and the POLL is the frame of the agent come to. -/
theorem roundsAndPolls : Obligations.RoundsAndPolls := by
  unfold Obligations.RoundsAndPolls
  intro s comesTo clocked comesTo_iff
  refine ⟨fun loaded roster due => ?_, fun a x loaded calling free idle position found => ?_,
    fun a x i polling line position hx hi => ?_⟩
  · refine ⟨_, exec_roundStart_due clocked (polls_of_loaded loaded roster)
      (roundStarts_of_due s.link due), ?_, ?_⟩
    · obtain ⟨phase, place, h⟩ := comeToNext_changes { s with link.position := none }
      rw [h]
    · exact (comesTo_iff _ _).mpr (comeToNext_comesTo { s with link.position := none })
  · obtain ⟨member, rfl⟩ := findAgent_some found
    have polls := polls_of_loaded loaded (List.ne_nil_of_mem member)
    have due : s.pollDue = true := by
      unfold State.pollDue
      simp [clocked, polls, calling, free, idle]
    exact execPoll_due s _ x due position found
  · obtain ⟨u, round, ends⟩ := exec_endsExchange (listens_of_clocked clocked line) hx hi
    refine ⟨_, ends, endExchange_exchange u, endExchange_line u, (comesTo_iff _ _).mpr ?_⟩
    have next := endExchange_polling u (round.phase.trans polling)
    have left : agentsLeft { u.link with exchange := none, line := .idle }
        = (endExchange u).link.roster.filter fun y => decide (a.toNat < y.address.toNat) := by
      unfold agentsLeft
      rw [endExchange_roster, round.position.trans position]
    rw [← left, next, ← round.limits]
    exact comeToNext_comesTo { u with link.exchange := none, link.line := .idle }

/-! ## The levels of the line -/

theorem lde_iff (s : State) :
    s.lde = true ↔ s.inReset = false ∧ s.resetnLow = false ∧ s.link.line = .sending := by
  unfold State.lde State.live
  simp only [Bool.and_eq_true, Bool.not_eq_true', beq_iff_eq, and_assoc]

/-- While LDE is low the line is high (R104). -/
theorem ltx_idle {s : State} (low : s.lde = false) : s.ltx = [true] := by
  unfold State.ltx
  rw [low]

/-- While LDE is raised the line carries the bytes of the POLL back to back (R104). -/
theorem ltx_sending {s : State} {x : Exchange} (raised : s.lde = true)
    (hx : s.link.exchange = some x) : s.ltx = x.frame.flatMap byteLevels := by
  unfold State.ltx
  rw [raised, hx]

theorem byteLevels_length (b : Byte) : (byteLevels b).length = 10 := rfl

/-- A byte on the line: start bit, data bits from the least significant, stop bit (R104). -/
theorem byteLevels_get (b : Byte) :
    (byteLevels b)[0]? = some false ∧ (byteLevels b)[9]? = some true
      ∧ ∀ n, n < 8 → (byteLevels b)[1 + n]? = some (b.getLsbD n) := by
  refine ⟨rfl, rfl, fun n hn => ?_⟩
  unfold byteLevels
  rw [List.cons_append, Nat.add_comm, List.getElem?_cons_succ,
    List.getElem?_append_left (by simpa using hn), List.getElem?_map, List.getElem?_range hn]
  rfl

theorem frameLevels_length (frame : List Byte) :
    (frame.flatMap byteLevels).length = 10 * frame.length := by
  induction frame with
  | nil => rfl
  | cons b rest ih =>
    rw [List.flatMap_cons, List.length_append, ih, byteLevels_length, List.length_cons]
    omega

/-- The byte at place k of a frame takes the bit times 10 k to 10 k + 9 (R104). -/
theorem frameLevels_get (frame : List Byte) (k n : Nat) (b : Byte) (hb : frame[k]? = some b)
    (hn : n < 10) : (frame.flatMap byteLevels)[10 * k + n]? = (byteLevels b)[n]? := by
  induction frame generalizing k with
  | nil => cases hb
  | cons c rest ih =>
    rw [List.flatMap_cons]
    cases k with
    | zero =>
      cases hb
      rw [Nat.mul_zero, Nat.zero_add, List.getElem?_append_left hn]
    | succ k =>
      have beyond : (byteLevels c).length ≤ 10 * (k + 1) + n := by
        rw [byteLevels_length]
        omega
      have place : 10 * (k + 1) + n - (byteLevels c).length = 10 * k + n := by
        rw [byteLevels_length]
        omega
      rw [List.getElem?_append_right beyond, place]
      exact ih k hb

/-- A POLL on the line, bit time by bit time (R104). -/
theorem frameLevels_byte (frame : List Byte) (k : Nat) (b : Byte) (hb : frame[k]? = some b) :
    (frame.flatMap byteLevels)[10 * k]? = some false
      ∧ (frame.flatMap byteLevels)[10 * k + 9]? = some true
      ∧ ∀ n, n < 8 → (frame.flatMap byteLevels)[10 * k + 1 + n]? = some (b.getLsbD n) := by
  obtain ⟨start, stop, data⟩ := byteLevels_get b
  refine ⟨?_, ?_, fun n hn => ?_⟩
  · exact (frameLevels_get frame k 0 b hb (by decide)).trans start
  · exact (frameLevels_get frame k 9 b hb (by decide)).trans stop
  · rw [Nat.add_assoc]
    exact (frameLevels_get frame k (1 + n) b hb (by omega)).trans (data n hn)

/-- Settles O43: the rows of the link by whether a POLL is sent, whether an exchange runs, and
whether its reply is judged. -/
theorem lineCarriesPolls : Obligations.LineCarriesPolls := by
  unfold Obligations.LineCarriesPolls
  intro s
  refine ⟨lde_iff s, ltx_idle, fun x raised hx => ?_, fun clocked => ⟨fun sending => ?_,
    fun busy => ?_, fun stop bytes line => ⟨fun alone => ?_, fun x hx => ⟨fun judged long => ?_,
      fun judged short => ?_, exec_replyWindowClose_judged hx, fun unjudged long => ?_⟩⟩⟩⟩
  · rw [ltx_sending raised hx]
    exact ⟨frameLevels_length x.frame, frameLevels_byte x.frame⟩
  · exact ⟨execPoll_sending s clocked sending, execReplyWindowClose_sending s sending,
      fun stop bytes => execReplyJudge_sending stop bytes s sending⟩
  · exact execPoll_disabled s (by rw [busy]; exact Line.noConfusion) (.inr (.inr (.inr busy)))
  · rw [exec_replyJudge_alone stop bytes (listens_of_clocked clocked line) alone]
    split
    · next long => rw [discardBytes_long bytes s long]
    · next short =>
      rw [discardBytes_short bytes s (Nat.le_of_lt_succ (Nat.not_le.mp short)), alone]
      rfl
  · rw [exec_replyJudge_judged stop bytes (listens_of_clocked clocked line) hx judged,
      discardBytes_long bytes s long]
  · refine ⟨endExchange s, ?_, ?_⟩
    · rw [exec_replyJudge_judged stop bytes (listens_of_clocked clocked line) hx judged,
        discardBytes_short bytes s (Nat.le_of_lt_succ short), hx]
      rfl
    · obtain ⟨phase, position, h⟩ := endExchange_changes s
      rw [h]
  · have round := judgedReply_round x (judgeFrame x.agent stop bytes) s
    exact ⟨_, exec_replyJudge_long stop bytes (listens_of_clocked clocked line) hx unjudged long,
      rfl, rfl, round.phase, round.position⟩

end Sys2Proof.Machine

/-!
The CRC of the link as a recurrence (R107), and a reply judged check by check (R114).
-/

namespace Sys2Proof.Machine

/-! ## The CRC -/

theorem crcStep_eq (r : BitVec 16) :
    crcStep r = if r.getLsbD 15 then (r <<< 1) ^^^ 0x8005 else r <<< 1 := by
  unfold crcStep
  rw [BitVec.msb_eq_getLsbD_last]

theorem crcSteps_eq_iterate (n : Nat) (r : BitVec 16) : crcSteps n r = crcStep^[n] r := by
  induction n generalizing r with
  | zero => rfl
  | succ n ih => exact ih (crcStep r)

/-- A byte in the high eight bits of the register (R107). -/
theorem byte_high (b : Byte) :
    (b.setWidth 16 <<< 8 : BitVec 16) = (b ++ (0 : Byte) : BitVec 16) := by
  refine BitVec.eq_of_toNat_eq (.trans ?_ (BitVec.toNat_append b (0 : Byte)).symm)
  have := b.isLt
  simp [Nat.shiftLeft_eq]
  omega

/-- The bytes of the CRC, high byte first (R107). -/
theorem crcBytes_eq (bytes : List Byte) :
    crcBytes bytes = [(crc bytes).extractLsb' 8 8, (crc bytes).extractLsb' 0 8] := by
  have high : byte ((crc bytes).toNat / 256) = (crc bytes).extractLsb' 8 8 := by
    apply BitVec.eq_of_toNat_eq
    simp [byte, Nat.shiftRight_eq_div_pow]
  have low : byte (crc bytes).toNat = (crc bytes).extractLsb' 0 8 := by
    apply BitVec.eq_of_toNat_eq
    simp [byte]
  unfold crcBytes be16
  rw [high, low]

/-- One more byte: into the high eight bits, then eight steps (R107). -/
theorem crc_snoc (bytes : List Byte) (b : Byte) :
    crc (bytes ++ [b]) = crcStep^[8] (crc bytes ^^^ (b ++ (0 : Byte) : BitVec 16)) := by
  rw [← byte_high, ← crcSteps_eq_iterate]
  exact List.foldl_append ..

/-! ## The checks of a reply -/

theorem frameAt_eq_iff {bytes : List Byte} {k : Nat} (v : Byte) (hk : k < bytes.length) :
    frameAt bytes k = v ↔ bytes[k]? = some v := by
  unfold frameAt
  rw [List.getD_eq_getElem?_getD, List.getElem?_eq_getElem hk]
  simp

theorem getElem?_frameAt {bytes : List Byte} {k : Nat} (hk : k < bytes.length) :
    bytes[k]? = some (frameAt bytes k) := (frameAt_eq_iff _ hk).mp rfl

theorem frameCrcOk_iff (bytes : List Byte) : frameCrcOk bytes = true
    ↔ crcBytes ((bytes.drop 1).take (bytes.length - 3)) = bytes.drop (bytes.length - 2) := by
  unfold frameCrcOk
  rw [beq_iff_eq]

/-- Check 5 of a REPORT: its size is that of its detail length (R114). -/
theorem frameSizeOk_report {bytes : List Byte} (type : frameAt bytes 2 = 0x02) :
    frameSizeOk bytes = true ↔ 14 ≤ bytes.length ∧ (frameAt bytes 11).toNat ≤ 8
      ∧ bytes.length = 14 + (frameAt bytes 11).toNat := by
  unfold frameSizeOk
  rw [if_neg (by rw [type]; decide)]
  simp only [Bool.and_eq_true, decide_eq_true_eq, beq_iff_eq, and_assoc]

/-- The four bytes of a report's path stand in the frame from the sixth on (R106). -/
theorem frameReport_path (a : Byte) {bytes : List Byte} (long : 9 ≤ bytes.length) :
    (bytes.drop 5).take 4 = (frameReport a bytes).path.bytes := by
  rw [List.drop_eq_getElem_cons (by omega), List.drop_eq_getElem_cons (by omega),
    List.drop_eq_getElem_cons (by omega), List.drop_eq_getElem_cons (by omega)]
  show [bytes[5], bytes[6], bytes[7], bytes[8]] = _
  have at_place : ∀ k (hk : k < bytes.length), bytes[k] = frameAt bytes k := fun k hk =>
    ((frameAt_eq_iff _ hk).mpr (List.getElem?_eq_getElem hk)).symm
  rw [at_place 5, at_place 6, at_place 7, at_place 8]
  rfl

section
variable {a : Byte} {bytes : List Byte}

/-- Check 1: stop bits, sync byte and size (R114). -/
theorem judgeFrame_malformed (stop : Bool) (h : stop = false ∨ bytes.head? ≠ some 0xB4
    ∨ bytes.length < 5 ∨ 22 < bytes.length) : judgeFrame a stop bytes = .bad 2 := by
  have sync : bytes.head? ≠ some 0xB4 → frameAt bytes 0 ≠ 0xB4 := by
    cases bytes with
    | nil => exact fun _ => by decide
    | cons b rest => exact fun h e => h (congrArg some e)
  unfold judgeFrame
  refine if_pos ?_
  simp only [Bool.or_eq_true, Bool.not_eq_true', bne_iff_ne, decide_eq_true_eq]
  rcases h with h | h | h | h
  · exact .inl (.inl (.inl h))
  · exact .inl (.inl (.inr (sync h)))
  · exact .inl (.inr h)
  · exact .inr h

variable (head : bytes.head? = some 0xB4) (least : 5 ≤ bytes.length) (most : bytes.length ≤ 22)
include head least most

/-- The checks after the first (R114). -/
theorem judgeFrame_formed : judgeFrame a true bytes
    = if !frameCrcOk bytes then .bad 1
      else if frameAt bytes 1 != 0x80 + a then .bad 3
      else if frameAt bytes 2 != 0x02 && frameAt bytes 2 != 0x03 then .bad 3
      else if !frameSizeOk bytes then .bad 2
      else if frameAt bytes 2 = 0x03 then .quiet
      else .report (frameReport a bytes) := by
  have sync : frameAt bytes 0 = 0xB4 := (frameAt_eq_iff _ (by omega)).mpr (by
    rw [← List.head?_eq_getElem?, head])
  unfold judgeFrame
  refine if_neg ?_
  simp only [Bool.or_eq_true, Bool.not_eq_true', bne_iff_ne, decide_eq_true_eq, not_or]
  exact ⟨⟨⟨by decide, not_not.mpr sync⟩, Nat.not_lt.mpr least⟩, Nat.not_lt.mpr most⟩

/-- Check 2: the CRC (R114). -/
theorem judgeFrame_wrongCrc (crc : crcBytes ((bytes.drop 1).take (bytes.length - 3))
    ≠ bytes.drop (bytes.length - 2)) : judgeFrame a true bytes = .bad 1 := by
  have wrong : frameCrcOk bytes = false := Bool.eq_false_iff.mpr fun h =>
    crc ((frameCrcOk_iff bytes).mp h)
  rw [judgeFrame_formed head least most, wrong]
  rfl

variable (crc : crcBytes ((bytes.drop 1).take (bytes.length - 3)) = bytes.drop (bytes.length - 2))
include crc

/-- Check 3: the address (R114). -/
theorem judgeFrame_wrongAddress (address : bytes[1]? ≠ some (0x80 + a)) :
    judgeFrame a true bytes = .bad 3 := by
  have wrong : frameAt bytes 1 ≠ 0x80 + a := fun h => address ((frameAt_eq_iff _ (by omega)).mp h)
  rw [judgeFrame_formed head least most, (frameCrcOk_iff bytes).mpr crc]
  exact if_pos (bne_iff_ne.mpr wrong)

variable (address : bytes[1]? = some (0x80 + a))
include address

/-- The checks of the type and of the size that it asks for (R114). -/
theorem judgeFrame_addressed : judgeFrame a true bytes
    = if frameAt bytes 2 != 0x02 && frameAt bytes 2 != 0x03 then .bad 3
      else if !frameSizeOk bytes then .bad 2
      else if frameAt bytes 2 = 0x03 then .quiet
      else .report (frameReport a bytes) := by
  have right : frameAt bytes 1 = 0x80 + a := (frameAt_eq_iff _ (by omega)).mpr address
  simp only [judgeFrame_formed head least most, (frameCrcOk_iff bytes).mpr crc, right,
    Bool.not_true, bne_self_eq_false, Bool.false_eq_true, if_false]

/-- Check 4: the type (R114). -/
theorem judgeFrame_wrongType (report : bytes[2]? ≠ some 0x02) (quiet : bytes[2]? ≠ some 0x03) :
    judgeFrame a true bytes = .bad 3 := by
  rw [judgeFrame_addressed head least most crc address]
  refine if_pos ?_
  rw [Bool.and_eq_true, bne_iff_ne, bne_iff_ne]
  exact ⟨fun h => report ((frameAt_eq_iff _ (by omega)).mp h),
    fun h => quiet ((frameAt_eq_iff _ (by omega)).mp h)⟩

/-- Check 5 of a QUIET, which has five bytes (R106, R114). -/
theorem judgeFrame_quiet (quiet : bytes[2]? = some 0x03) :
    judgeFrame a true bytes = if bytes.length = 5 then .quiet else .bad 2 := by
  have type : frameAt bytes 2 = 0x03 := (frameAt_eq_iff _ (by omega)).mpr quiet
  rw [judgeFrame_addressed head least most crc address]
  unfold frameSizeOk
  by_cases size : bytes.length = 5
  · simp [type, size]
  · simp [type, size]

/-- Check 5 of a REPORT, whose size its detail length gives (R106, R114). -/
theorem judgeFrame_reported (report : bytes[2]? = some 0x02) : judgeFrame a true bytes
    = if 14 ≤ bytes.length ∧ (frameAt bytes 11).toNat ≤ 8
          ∧ bytes.length = 14 + (frameAt bytes 11).toNat
        then .report (frameReport a bytes) else .bad 2 := by
  have type : frameAt bytes 2 = 0x02 := (frameAt_eq_iff _ (by omega)).mpr report
  rw [judgeFrame_addressed head least most crc address]
  simp only [type, bne_self_eq_false, Bool.false_and, Bool.false_eq_true, if_false,
    Bool.not_eq_true', ← Bool.not_eq_true, ite_not, frameSizeOk_report type]
  rfl

end

/-- Settles O44: the CRC byte by byte, and a reply by the first check that fails. -/
theorem repliesAreJudgedInOrder : Obligations.RepliesAreJudgedInOrder := by
  unfold Obligations.RepliesAreJudgedInOrder
  refine ⟨⟨rfl, fun bytes b => ?_, crcBytes_eq⟩, fun a stop bytes =>
    ⟨judgeFrame_malformed stop, ?_⟩⟩
  · rw [crc_snoc]
    exact congrArg (fun f => f^[8] _) (funext crcStep_eq)
  rintro rfl head least most
  refine ⟨judgeFrame_wrongCrc head least most, fun crc =>
    ⟨judgeFrame_wrongAddress head least most crc, fun address =>
      ⟨judgeFrame_wrongType head least most crc address,
        judgeFrame_quiet head least most crc address, fun report d detail small => ?_⟩⟩⟩
  have judged := judgeFrame_reported head least most crc address report
  have length : 14 ≤ bytes.length → (frameAt bytes 11).toNat = d := fun long => by
    rw [(frameAt_eq_iff _ (by omega)).mpr (detail long)]
    exact Nat.mod_eq_of_lt small
  refine ⟨fun ⟨long, most', size⟩ => ?_, fun wrong => ?_⟩
  · have agrees := length long
    rw [if_pos (by rw [agrees]; exact ⟨long, most', size⟩)] at judged
    refine ⟨_, judged, rfl, getElem?_frameAt (by omega), getElem?_frameAt (by omega),
      frameReport_path a (by omega), getElem?_frameAt (by omega), getElem?_frameAt (by omega), ?_⟩
    exact agrees ▸ rfl
  · rw [judged, if_neg]
    rintro ⟨long, most', size⟩
    rw [length long] at most' size
    exact wrong ⟨long, most', size⟩

end Sys2Proof.Machine

/-!
The outcome of an exchange: a miss, a valid QUIET, a valid REPORT, and the reply of an exchange that
a commit has overtaken (R115 to R117, R119 to R121, R123).
-/

namespace Sys2Proof.Machine

/-! ## The record of one agent -/

theorem updateAgent_eq (roster : List Agent) (a : Byte) (f : Agent → Agent) :
    updateAgent roster a f = roster.map fun z => if z.address = a then f z else z := by
  unfold updateAgent
  simp only [beq_iff_eq]

/-- Two changes of one agent's record are one. -/
theorem withAgent_withAgent (a : Byte) (f g : Agent → Agent) (s : State)
    (hf : ∀ z, (f z).address = z.address) :
    withAgent a g (withAgent a f s) = withAgent a (fun z => g (f z)) s := by
  have roster : updateAgent (updateAgent s.link.roster a f) a g
      = updateAgent s.link.roster a fun z => g (f z) := by
    rw [updateAgent_eq, updateAgent_eq, updateAgent_eq, List.map_map]
    refine List.map_congr_left fun z _ => ?_
    by_cases h : z.address = a
    · simp [h, hf]
    · simp [h]
  show { s with link.roster := updateAgent (updateAgent s.link.roster a f) a g } = _
  rw [roster]
  rfl

/-- A change of one agent's record, written out. -/
theorem withAgent_eq (a : Byte) (f : Agent → Agent) (s : State) : withAgent a f s
    = { s with link.roster := s.link.roster.map fun z => if z.address = a then f z else z } := by
  rw [← updateAgent_eq]
  rfl

/-- A record changed as its agent's entry joins the queue (R111). -/
theorem enqueue_withAgent_roster (a : Byte) (e : LinkEntry) (f : Agent → Agent) (s : State)
    (hf : ∀ z, (f z).address = z.address) : (enqueue a e (withAgent a f s)).link.roster
      = s.link.roster.map fun z => if z.address = a then { f z with waiting := true } else z :=
  have once := withAgent_withAgent a f (fun z => { z with waiting := true }) s hf
  (congrArg (fun t : State => t.link.roster) once).trans (updateAgent_eq _ _ _)

/-! ## Misses -/

theorem Agent.miss_eq (z : Agent) : z.miss = { z with
    misses := min 255 (z.misses + 1)
    state := if z.state = .online ∧ z.limit ≤ min 255 (z.misses + 1) then .lapsed
      else z.state } := by
  unfold Agent.miss Agent.lapses Agent.missesAfter
  simp only [Bool.and_eq_true, beq_iff_eq, decide_eq_true_eq]

section
variable {s : State} {a : Byte} {y : Agent} (found : findAgent s.link.roster a = some y)
include found

theorem miss_link (code : Option Byte) : (miss a code s).link
    = (if y.lapses || code.isSome then
        enqueue a (.part a code y.lapses) (withAgent a Agent.miss s)
      else withAgent a Agent.miss s).link := by
  unfold miss
  rw [found]
  dsimp only
  split <;> split <;> rfl

/-- The record of an agent after a miss (R119, R120), its pending flag raised where a part entry is
queued (R121). -/
theorem miss_roster (code : Option Byte) : (miss a code s).link.roster
    = s.link.roster.map fun z => if z.address = a then
        { z with
          misses := min 255 (z.misses + 1)
          state := if z.state = .online ∧ z.limit ≤ min 255 (z.misses + 1) then .lapsed else z.state
          waiting := z.waiting || y.lapses || code.isSome }
      else z := by
  simp only [miss_link found code, Bool.or_assoc]
  split
  · next queued =>
    rw [enqueue_withAgent_roster a _ Agent.miss s fun _ => rfl]
    simp only [Agent.miss_eq, queued, Bool.or_true]
  · next unqueued =>
    rw [withAgent_eq]
    simp only [Agent.miss_eq, Bool.eq_false_iff.mpr unqueued, Bool.or_false]

end

/-- A miss moves the link and the causes alone. -/
theorem miss_beside (a : Byte) (code : Option Byte) (s : State) : miss a code s
    = { s with link := (miss a code s).link, window := (miss a code s).window } := by
  unfold miss
  split
  · rfl
  · dsimp only
    split <;> split <;> rfl

/-! ## Replies of a live exchange -/

theorem judgedReply_live {x : Exchange} (live : x.fate = .live) (j : Judged) (s : State) :
    judgedReply x j s = judgedLive x.agent j s := by
  unfold judgedReply
  rw [live]

/-- A reply that is valid has at most 22 bytes (R114). -/
theorem length_of_valid {a : Byte} {stop : Bool} {bytes : List Byte}
    (valid : judgeFrame a stop bytes ≠ .bad 2) : bytes.length ≤ 22 :=
  Nat.not_lt.mp fun long => valid (judgeFrame_malformed stop (.inr (.inr (.inr long))))

/-- The end of an exchange that still counts: a miss, whose exchange holds the line after 23 bytes
(R105, R119). -/
theorem exec_missed {s : State} {x : Exchange} {i : Instr} {linkCode : Option Byte} {long : Bool}
    (listens : s.listens = true) (hx : s.link.exchange = some x) (live : x.fate = .live)
    (unjudged : x.judged = false)
    (hi : i = .replyWindowClose ∧ linkCode = none ∧ long = false
      ∨ ∃ (stop : Bool) (bs : List Byte) (code : Byte), i = .replyJudge stop bs
        ∧ judgeFrame x.agent stop bs = .bad code ∧ linkCode = some code
        ∧ long = decide (22 < bs.length)) :
    exec i s = .next
      (if long then holdLine x (miss x.agent linkCode s)
        else endExchange (miss x.agent linkCode s)) := by
  rcases hi with ⟨rfl, rfl, rfl⟩ | ⟨stop, bytes, code, rfl, bad, rfl, rfl⟩
  · rw [exec_replyWindowClose_unjudged listens hx unjudged]
    unfold workReplyWindowClose
    rw [if_pos live]
    rfl
  · have missed : judgedReply x (judgeFrame x.agent stop bytes) s = miss x.agent (some code) s := by
      rw [judgedReply_live live, bad]
      rfl
    by_cases long : 22 < bytes.length
    · rw [exec_replyJudge_long stop bytes listens hx unjudged long, missed]
      simp [long]
    · rw [exec_replyJudge_short stop bytes listens hx unjudged (Nat.not_lt.mp long), missed]
      simp [long]

/-- Settles O45: a valid QUIET changes its agent's record alone; no reply and a bad one are the same
miss but for the LINK raise. -/
theorem quietAndMisses : Obligations.QuietAndMisses := by
  unfold Obligations.QuietAndMisses
  intro s x y clocked line hx live unjudged found
  have listens := listens_of_clocked clocked line
  refine ⟨fun stop bytes quiet => ?_, fun i linkCode lapse long hi hlapse => ?_⟩
  · have short : bytes.length ≤ 22 := length_of_valid (by rw [quiet]; exact Judged.noConfusion)
    have judged : judgedReply x (judgeFrame x.agent stop bytes) s
        = withAgent x.agent Agent.quiet s := by
      rw [judgedReply_live live, quiet]
      rfl
    rw [exec_replyJudge_short stop bytes listens hx unjudged short, judged]
    refine ⟨_, rfl, endExchange_beside _, endExchange_exchange _, ?_, endExchange_queue _⟩
    rw [endExchange_roster, withAgent_eq]
    rfl
  · obtain rfl : lapse = y.lapses := hlapse
    have roster := miss_roster found linkCode
    have queue := miss_queue x.agent linkCode s y found
    have beside := miss_beside x.agent linkCode s
    rw [miss_cause x.agent linkCode s y found] at beside
    refine ⟨_, exec_missed listens hx live unjudged hi, ?_⟩
    cases long with
    | true => exact ⟨rfl, rfl, roster, queue, congrArg (holdLine x) beside⟩
    | false =>
      refine ⟨endExchange_exchange _, endExchange_line _, (endExchange_roster _).trans roster,
        (endExchange_queue _).trans queue, ?_⟩
      exact (endExchange_beside _).trans (congrArg (fun u : State =>
        { u with link := (endExchange (miss x.agent linkCode s)).link }) beside)

/-! ## Reports of a live exchange -/

section
variable {s : State} {r : Report} {y : Agent} (found : findAgent s.link.roster r.agent = some y)
include found

/-- A replay keeps the verdict and makes no request (R117). -/
theorem judgedReport_replay (seq : r.seq ≠ 0) (same : r.seq = y.lastSeq) : judgedReport r s
    = withAgent r.agent (fun z => { z with state := .online, misses := 0 }) s := by
  have replays : r.replays y = true := by
    unfold Report.replays
    rw [beq_iff_eq.mpr same, bne_iff_ne.mpr seq]
    rfl
  unfold judgedReport
  rw [found]
  exact if_pos replays

/-- A report that is no replay is a new one (R116; log entry 15). -/
theorem judgedReport_new (new : r.seq = 0 ∨ r.seq ≠ y.lastSeq) :
    judgedReport r s = newReport r (withAgent r.agent Agent.heard s) := by
  have replays : ¬ r.replays y = true := by
    unfold Report.replays
    rcases new with h | h
    · simp [h]
    · simp [h]
  unfold judgedReport
  rw [found]
  exact if_neg replays

/-- A new report of seq 0 or of an undefined kind is stored REFUSED_MALFORMED (R116). -/
theorem judgedReport_malformed (h : r.seq = 0 ∨ (r.seq ≠ y.lastSeq ∧ r.kindOk = false)) :
    judgedReport r s = withAgent r.agent (fun z => { z with
      state := .online, misses := 0, stored := (r.seq, .refusedMalformed) }) s := by
  rw [judgedReport_new found (h.imp_right (·.1))]
  unfold newReport
  rw [if_pos (h.imp_right (·.2))]
  exact withAgent_withAgent r.agent Agent.heard _ s fun _ => rfl

variable (seq : r.seq ≠ 0) (other : r.seq ≠ y.lastSeq) (kind : r.kindOk = true)
include seq other kind

/-- A new report that is not malformed finds a report entry in the queue, or joins the queue
(R116). -/
theorem judgedReport_formed : judgedReport r s
    = if s.link.queue.any LinkEntry.isReport then
        withAgent r.agent (fun z => { z with
          state := .online, misses := 0, stored := (r.seq, .refusedBusy) }) s
      else enqueue r.agent (.report r) (withAgent r.agent (fun z => { z with
          state := .online, misses := 0, lastSeq := r.seq, stored := (0, .none) }) s) := by
  rw [judgedReport_new found (.inr other)]
  unfold newReport
  rw [if_neg (not_or.mpr ⟨seq, by rw [kind]; decide⟩), withAgent_withAgent, withAgent_withAgent]
  · rfl
  · exact fun _ => rfl
  · exact fun _ => rfl

end

/-- A valid REPORT moves the link alone (R115 to R117). -/
theorem judgedReport_beside (r : Report) (s : State) :
    judgedReport r s = { s with link := (judgedReport r s).link } := by
  unfold judgedReport newReport
  split
  · rfl
  · dsimp only
    split
    · rfl
    · split
      · rfl
      · split <;> rfl

/-- Settles O46: a replay, a malformed report, one that finds a report queued, and one that
joins the queue. -/
theorem reportsAreQueuedOnce : Obligations.ReportsAreQueuedOnce := by
  unfold Obligations.ReportsAreQueuedOnce
  intro s x y stop bytes r clocked line hx live unjudged found report
  have agent := judgeFrame_agent x.agent stop bytes r report
  have short : bytes.length ≤ 22 := length_of_valid (by rw [report]; exact Judged.noConfusion)
  have judged : judgedReply x (judgeFrame x.agent stop bytes) s = judgedReport r s := by
    rw [judgedReply_live live, report]
    rfl
  rw [exec_replyJudge_short stop bytes (listens_of_clocked clocked line) hx unjudged short, judged]
  rw [← agent] at found ⊢
  refine ⟨_, rfl, endExchange_exchange _, ?_⟩
  rw [endExchange_roster, endExchange_queue]
  refine ⟨fun seq same => ?_, fun malformed => ?_, fun seq other kind queued => ?_,
    fun seq other kind free => ?_, ?_⟩
  · rw [judgedReport_replay found seq same]
    exact ⟨updateAgent_eq _ _ _, rfl⟩
  · rw [judgedReport_malformed found malformed]
    exact ⟨updateAgent_eq _ _ _, rfl⟩
  · rw [judgedReport_formed found seq other kind, if_pos queued]
    exact ⟨updateAgent_eq _ _ _, rfl⟩
  · rw [judgedReport_formed found seq other kind, if_neg (by simp [free])]
    exact ⟨enqueue_withAgent_roster _ _ _ s fun _ => rfl, rfl⟩
  · exact (endExchange_beside _).trans (congrArg (fun u : State =>
      { u with link := (endExchange (judgedReport r s)).link }) (judgedReport_beside r s))

end Sys2Proof.Machine

/-!
The reply of an exchange that a commit has overtaken (R123).
-/

namespace Sys2Proof.Machine

theorem kindOk_iff (r : Report) : r.kindOk = true ↔ 1 ≤ r.kind.toNat ∧ r.kind.toNat ≤ 4 := by
  unfold Report.kindOk
  rw [Bool.and_eq_true, decide_eq_true_eq, decide_eq_true_eq]

section
variable {x : Exchange} {s : State}

/-- After the commit no outcome is recorded (R123). -/
theorem judgedReply_dropped (dropped : x.fate = .dropped) (j : Judged) :
    judgedReply x j s = s := by
  unfold judgedReply
  rw [dropped]

/-- A bad reply or a QUIET of an overtaken exchange is not recorded (R123). -/
theorem judgedReply_overtaken_unreported (overtaken : x.fate = .busyOnly ∨ x.fate = .dropped)
    {j : Judged} (h : ∀ r, j ≠ .report r) : judgedReply x j s = s := by
  rcases overtaken with busy | dropped
  · unfold judgedReply
    rw [busy]
    cases j with
    | bad code => rfl
    | quiet => rfl
    | report r => exact absurd rfl (h r)
  · exact judgedReply_dropped dropped j

/-- A REPORT of an agent that is not in the roster is not recorded (R123). -/
theorem judgedReply_overtaken_unknown (overtaken : x.fate = .busyOnly ∨ x.fate = .dropped)
    {r : Report} (unknown : findAgent s.link.roster r.agent = none) :
    judgedReply x (.report r) s = s := by
  rcases overtaken with busy | dropped
  · unfold judgedReply judgedBusy
    rw [busy]
    dsimp only
    rw [unknown]
  · exact judgedReply_dropped dropped _

/-- Inside COMMITTING a REPORT with a new seq and a valid kind and seq is answered REFUSED_BUSY, and
no other (R123). -/
theorem judgedReply_busyOnly (busy : x.fate = .busyOnly) {r : Report} {y : Agent}
    (found : findAgent s.link.roster r.agent = some y) : judgedReply x (.report r) s
      = if r.seq ≠ 0 ∧ r.kindOk = true ∧ r.seq ≠ y.lastSeq then
          withAgent r.agent (fun z => { z with stored := (r.seq, .refusedBusy) }) s
        else s := by
  unfold judgedReply judgedBusy
  rw [busy]
  dsimp only
  rw [found]

/-- The reply window of an overtaken exchange closes without a miss (R123). -/
theorem workReplyWindowClose_overtaken (overtaken : x.fate = .busyOnly ∨ x.fate = .dropped) :
    workReplyWindowClose x s = endExchange s := by
  unfold workReplyWindowClose
  refine if_neg ?_
  rcases overtaken with fate | fate <;> rw [fate] <;> exact ExchangeFate.noConfusion

end

/-- Settles O47: by what the reply is judged to be and whether its agent is known, the roster is the
one named; the exchange then ends, or holds the line after 23 bytes. -/
theorem overtakenExchanges : Obligations.OvertakenExchanges := by
  unfold Obligations.OvertakenExchanges
  intro s x clocked line hx unjudged overtaken phase
  have listens := listens_of_clocked clocked line
  refine ⟨?_, fun stop bytes roster reported unheard => ?_⟩
  · rw [exec_replyWindowClose_unjudged listens hx unjudged,
      workReplyWindowClose_overtaken overtaken, endExchange_other s phase]
  have judged : judgedReply x (judgeFrame x.agent stop bytes) s
      = { s with link.roster := roster } := by
    have kept (same : roster = s.link.roster) : s = { s with link.roster := roster } := by
      rw [same]
    have unreported (h : ∀ r, judgeFrame x.agent stop bytes ≠ .report r) :=
      (judgedReply_overtaken_unreported overtaken h).trans (kept (unheard (.inl h)))
    cases hj : judgeFrame x.agent stop bytes with
    | bad code =>
      rw [← hj]
      exact unreported fun r => by rw [hj]; exact Judged.noConfusion
    | quiet =>
      rw [← hj]
      exact unreported fun r => by rw [hj]; exact Judged.noConfusion
    | report r =>
      have agent := judgeFrame_agent x.agent stop bytes r hj
      cases found : findAgent s.link.roster x.agent with
      | none =>
        rw [judgedReply_overtaken_unknown overtaken (agent ▸ found)]
        exact kept (unheard (.inr found))
      | some y =>
        obtain ⟨refused, other⟩ := reported r y hj found
        rcases overtaken with busy | dropped
        · rw [judgedReply_busyOnly busy (agent ▸ found)]
          split
          · next new =>
            obtain ⟨seq, kind, replay⟩ := new
            obtain ⟨least, most⟩ := (kindOk_iff r).mp kind
            rw [withAgent_eq, agent, refused busy seq replay least most]
          · next old =>
            refine kept (other (.inr ?_))
            rw [kindOk_iff] at old
            by_contra new
            push Not at new
            exact old ⟨new.1, ⟨new.2.2.1, new.2.2.2⟩, new.2.1⟩
        · rw [judgedReply_dropped dropped]
          exact kept (other (.inl dropped))
  by_cases long : 22 < bytes.length
  · rw [exec_replyJudge_long stop bytes listens hx unjudged long, judged, if_pos long, if_pos long]
    rfl
  · rw [exec_replyJudge_short stop bytes listens hx unjudged (Nat.not_lt.mp long), judged,
      endExchange_other { s with link.roster := roster } phase, if_neg long, if_neg long]

end Sys2Proof.Machine

/-!
The release law: what the hand-off, the withdrawal and the grant leave of Release Control, and that
the work of every row keeps TRIPPED with FATAL_HELD, GRANTED in RUN and RUN in LOADED (R129, R132,
R135).
-/

namespace Sys2Proof.Machine

/-! ## Release Control alone -/

/-- The part of the release law that Release Control holds by itself: TRIPPED exactly with a
FATAL_HELD above 0 (R132), GRANTED only in RUN (R135). -/
def ReleaseControl.Lawful (r : ReleaseControl) : Prop :=
  (r.state = .tripped ↔ 0 < r.fatalCopy) ∧ (r.state = .granted → r.mode = .run)

theorem releaseLaw_iff (s : State) : ReleaseLaw s ↔
    s.release.Lawful ∧ (s.release.mode = .run → s.topo.state = .loaded) := and_assoc.symm

/-- A hand-off of 0 ends a trip, and of any other value trips (R132, R133). -/
theorem ReleaseControl.Lawful.handOff {r : ReleaseControl} (h : r.Lawful) (fatal : Nat) :
    (r.handOff fatal).Lawful := by
  obtain ⟨tripped, granted⟩ := h
  unfold ReleaseControl.handOff
  split
  · exact ⟨tripped, granted⟩
  · split
    · refine ⟨⟨fun trip => ?_, fun held => absurd held (Nat.lt_irrefl 0)⟩, fun grant => ?_⟩
      · dsimp only at trip
        split at trip
        · cases trip
        · next untripped => exact absurd trip untripped
      · dsimp only at grant
        split at grant
        · cases grant
        · exact granted grant
    · next above => exact ⟨⟨fun _ => Nat.pos_of_ne_zero above, fun _ => rfl⟩, fun h => by cases h⟩

theorem ReleaseControl.hold_tripped_iff (r : ReleaseControl) :
    r.hold.state = .tripped ↔ r.state = .tripped := by
  unfold ReleaseControl.hold
  dsimp only
  split
  · next granted => rw [granted]; decide
  · exact .rfl

/-- The withdrawal leaves a trip as it is, and no GRANTED in HOLD (R131). -/
theorem ReleaseControl.Lawful.hold {r : ReleaseControl} (h : r.Lawful) : r.hold.Lawful :=
  ⟨r.hold_tripped_iff.trans h.1, fun granted => absurd granted r.hold_not_granted⟩

/-! ## The state -/

theorem SameCore.releaseLaw {s t : State} (h : SameCore s t) (hs : ReleaseLaw s) :
    ReleaseLaw t := by
  unfold ReleaseLaw
  rw [h.release, h.state]
  exact hs

theorem ReleaseLaw.complete {s : State} (h : ReleaseLaw s) (result : Byte)
    (response : List Byte) : ReleaseLaw (complete result response s) := h

/-- The hand-off at the end of a request moves neither the mode nor the topology state (R16). -/
theorem ReleaseLaw.handOff {s : State} (h : ReleaseLaw s) (w : Work) :
    ReleaseLaw (handOff s w) := by
  obtain ⟨lawful, loaded⟩ := (releaseLaw_iff s).mp h
  refine (releaseLaw_iff _).mpr ⟨lawful.handOff _, fun run => loaded ?_⟩
  rwa [← s.release.handOff_mode (fatalHeld w.slots)]

/-- A state in HOLD whose Release Control is lawful, whatever the topology state (R129). -/
theorem releaseLaw_of_hold {s : State} (lawful : s.release.Lawful) (hold : s.release.mode = .hold) :
    ReleaseLaw s :=
  (releaseLaw_iff s).mpr ⟨lawful, fun run => by rw [hold] at run; cases run⟩

theorem ReleaseLaw.ite {a b : State} {c : Prop} [Decidable c] (h : c → ReleaseLaw a)
    (h' : ¬ c → ReleaseLaw b) : ReleaseLaw (if c then a else b) := by
  split
  · next hc => exact h hc
  · next hc => exact h' hc

/-- The work of a command or a request keeps the release law. -/
def KeepsRelease (work : State → State) : Prop := ∀ s, ReleaseLaw s → ReleaseLaw (work s)

/-! ## Commands -/

theorem giveCommand_keepsRelease (code : Byte) {owner : State → State}
    (ho : KeepsRelease owner) : KeepsRelease (giveCommand code owner) := fun s hs =>
  .ite (fun _ => (csnRise_core s).releaseLaw hs) fun _ =>
    .ite (fun _ => ((csnRise_core s).trans (refuseOverrun_core _)).releaseLaw hs) fun _ =>
      ho (s.taken code) hs

/-- A window request at its grant: the marks of the grant leave Release Control. -/
theorem grantedWork_keepsRelease {work : State → State} (hw : KeepsRelease work) :
    KeepsRelease fun s => work { granted .window s with window.waiting := false } :=
  fun s hs => hw { granted .window s with window.waiting := false } hs

theorem request_keepsRelease (code : Byte) (engine : EngineAt) {work : State → State}
    (hw : KeepsRelease work) :
    KeepsRelease (giveCommand code (presentRequest engine work)) :=
  giveCommand_keepsRelease code fun s hs =>
    .ite (fun _ => grantedWork_keepsRelease hw { s with window.waiting := true } hs) fun _ => hs

/-! ### Release, configuration and staging -/

/-- RUN asks for LOADED (R130); HOLD withdraws (R131). -/
theorem workSetMode_keepsRelease : KeepsRelease workSetMode := by
  intro s hs
  obtain ⟨lawful, loaded⟩ := (releaseLaw_iff s).mp hs
  refine .ite (fun ok => ReleaseLaw.complete ?_ _ _) fun _ => hs
  unfold modeCheck at ok
  split at ok
  · next hold =>
    rw [hold]
    exact releaseLaw_of_hold lawful.hold rfl
  · split at ok
    · next run =>
      split at ok
      · next topology =>
        rw [run]
        exact ⟨lawful.1, fun _ => rfl, fun _ => topology⟩
      · cases ok
    · cases ok

/-- GRANT passes its checks only in RUN with nothing held (R134). -/
theorem workGrant_keepsRelease : KeepsRelease workGrant := by
  intro s hs
  refine .ite (fun ok => ReleaseLaw.complete ?_ _ _) fun _ => hs
  unfold grantCheck at ok
  split at ok
  · cases ok
  · next clear =>
    split at ok
    · cases ok
    · next run =>
      have unheld : ¬ 0 < s.release.fatalCopy := fun held => clear held.ne'
      exact ⟨⟨ReleaseState.noConfusion, fun held => absurd held unheld⟩, fun _ => not_not.mp run,
        hs.2.2⟩

theorem workGroupSet_keepsRelease : KeepsRelease workGroupSet := fun s hs =>
  .ite (fun _ => hs) fun _ => .ite (fun _ => hs) fun _ => by
    split
    · exact hs
    · exact .ite (fun _ => hs) fun _ => hs

theorem workSetLimits_keepsRelease : KeepsRelease workSetLimits := by
  intro s hs
  refine .ite (fun _ => ?_) fun _ => hs
  have written : ReleaseLaw (writeLimits (limitsArgument s.window) (expireIfDue s)) :=
    ReleaseLaw.handOff (s := { expireIfDue s with limits := limitsArgument s.window })
      ((expireIfDue_core s).releaseLaw hs) _
  exact (expireIfDue_core _).releaseLaw (written.complete _ _)

theorem workSetStamp_keepsRelease : KeepsRelease workSetStamp := fun s hs =>
  (expireIfDue_core _).releaseLaw
    (((expireIfDue_core s).trans (clock_core _ _)).releaseLaw hs |>.complete _ _)

theorem workTopoBegin_keepsRelease : KeepsRelease workTopoBegin := fun _ hs => hs

theorem workTopoPut_keepsRelease : KeepsRelease workTopoPut := fun _ hs => hs

/-- COMMITTING is entered only in HOLD (R60, R129). -/
theorem workTopoCommit_keepsRelease : KeepsRelease workTopoCommit := by
  intro s hs
  refine .ite (fun _ => hs) fun hold => .ite (fun _ => hs) fun _ => ?_
  rw [commitWork_eq, committed_eq]
  exact releaseLaw_of_hold ((releaseLaw_iff s).mp hs).1 (not_not.mp hold)

/-- A commit ends LOADED, in whichever mode (R64). -/
theorem workCommitComplete_keepsRelease : KeepsRelease workCommitComplete := fun s hs =>
  (releaseLaw_iff _).mpr ⟨((releaseLaw_iff s).mp hs).1.handOff _, fun _ => rfl⟩

/-! ### Acknowledging, clearing, raising and restoring -/

theorem workAck_keepsRelease : KeepsRelease workAck := fun s hs =>
  .ite (fun _ => hs) fun _ => by
    split
    · exact hs
    · exact (hs.handOff _).complete _ _

theorem workAckAll_keepsRelease : KeepsRelease workAckAll := fun _ hs =>
  .ite (fun _ => (hs.handOff _).complete _ _) fun _ => hs

theorem workClearDomain_keepsRelease : KeepsRelease workClearDomain := by
  intro s hs
  unfold workClearDomain
  split
  · exact hs
  · exact hs

theorem workSweepStart_keepsRelease : KeepsRelease workSweepStart := by
  intro s hs
  unfold workSweepStart
  split
  · exact hs
  · exact hs.handOff { taking s with slots := _, locs := _ }

theorem workSweepStep_keepsRelease (sw : Sweep) : KeepsRelease (workSweepStep sw) := by
  intro s hs
  have visited := hs.handOff ((stepIndices sw.next).foldl Work.sweepVisit (taking s))
  exact .ite (fun _ => visited) fun _ => visited

theorem workClearSummary_keepsRelease : KeepsRelease workClearSummary := fun _ hs => hs

theorem workRaiseApp_keepsRelease : KeepsRelease workRaiseApp := fun _ hs =>
  .ite (fun _ => (hs.handOff _).complete _ _) fun _ => hs

theorem workRestoreApp_keepsRelease : KeepsRelease workRestoreApp := fun _ hs =>
  .ite (fun _ => (hs.handOff _).complete _ _) fun _ => hs

/-- WARM-RESTART withdraws, then hands FATAL_HELD off (R139, R184). -/
theorem workWarmRestart_keepsRelease : KeepsRelease workWarmRestart := by
  intro s hs
  rw [workWarmRestart_eq]
  have release := warmRestarted_release s (taking s).warmRestart
  refine releaseLaw_of_hold ?_ ?_
  · rw [release]
    exact ((releaseLaw_iff s).mp hs).1.hold.handOff _
  · rw [release, ReleaseControl.handOff_mode]
    rfl

theorem finishRestart_keepsRelease (r : Restart) : KeepsRelease (finishRestart r) := by
  intro s hs
  have cleared : ReleaseLaw (if r.cleared then s else clearCauses r s) :=
    .ite (fun _ => hs) fun _ => hs
  exact cleared

/-! ### Reading -/

theorem workLookup_keepsRelease : KeepsRelease workLookup := fun _ hs =>
  .ite (fun _ => hs) fun _ => hs

theorem workGet_keepsRelease : KeepsRelease workGet := fun s hs =>
  .ite (fun _ => hs) fun _ => by
    split
    · exact hs
    · exact hs

theorem workListOpen_keepsRelease : KeepsRelease workListOpen := by
  intro s hs
  unfold workListOpen
  split
  · exact hs
  · exact hs

theorem nextMatch_keepsRelease (n : Byte) (c : Cursor) : KeepsRelease (nextMatch n c) := by
  intro s hs
  unfold nextMatch
  split
  · split
    · exact hs
    · exact hs
  · exact hs

theorem workListNext_keepsRelease : KeepsRelease workListNext := fun s hs =>
  .ite (fun _ => hs) fun _ => by
    split
    · exact hs
    · exact nextMatch_keepsRelease _ _ s hs
    · exact hs

theorem workListClose_keepsRelease : KeepsRelease workListClose := fun _ hs =>
  .ite (fun _ => hs) fun _ => hs

theorem workAgentInfo_keepsRelease : KeepsRelease workAgentInfo := fun s hs =>
  .ite (fun _ => hs) fun _ => by
    split
    · exact hs
    · exact hs

/-! ### The later grant -/

theorem windowWork_keepsRelease (code : Byte) : KeepsRelease (windowWork code) := by
  intro s hs
  unfold windowWork
  split
  · exact workTopoCommit_keepsRelease s hs
  · exact workSetLimits_keepsRelease s hs
  · exact workLookup_keepsRelease s hs
  · exact workGet_keepsRelease s hs
  · exact workListOpen_keepsRelease s hs
  · exact workListNext_keepsRelease s hs
  · exact workListClose_keepsRelease s hs
  · exact workAck_keepsRelease s hs
  · exact workAckAll_keepsRelease s hs
  · exact workSweepStart_keepsRelease s hs
  · exact workRaiseApp_keepsRelease s hs
  · exact workRestoreApp_keepsRelease s hs
  · exact workWarmRestart_keepsRelease s hs
  · exact hs

/-! ## The other rows -/

theorem answerWith_keepsRelease (r : Report) (refusal : State → Option Verdict)
    (work : Work → Work × Verdict) : KeepsRelease fun s => answerWith s r (refusal s) work := by
  intro s hs
  show ReleaseLaw (answerWith s r (refusal s) work)
  unfold answerWith
  split
  · exact (answerReport_core r _ s).releaseLaw hs
  · exact (answerReport_core r _ _).releaseLaw (hs.handOff _)

theorem reportStep_keepsRelease (kind : Byte) {work : Report → State → State}
    (hw : ∀ r, KeepsRelease (work r)) : KeepsRelease (reportStep kind work) := by
  intro s hs
  unfold reportStep
  split
  · exact .ite (fun _ => hw _ (granted .link s) hs) fun _ => hs
  · exact hs
  · exact hs

theorem grantedPart_keepsRelease (a : Byte) (linkCode : Option Byte) (lapse : Bool) :
    KeepsRelease fun s => workPart a linkCode lapse (granted .link s) := fun s hs =>
  (dequeue_core a _).releaseLaw (ReleaseLaw.handOff (s := granted .link s) hs _)

theorem workVerifyExpiry_keepsRelease : KeepsRelease workVerifyExpiry := fun _ hs => hs.handOff _

theorem coldReset_keepsRelease : KeepsRelease coldReset := fun _ _ => releaseLaw_reset

theorem sampleReset_keepsRelease : KeepsRelease sampleReset := fun s hs =>
  .ite (fun _ => hs) fun _ => .ite (fun _ => coldReset_keepsRelease s hs) fun _ =>
    .ite (fun _ => hs) fun _ => hs

theorem sampleInputs_releaseLaw {s : State} (hs : ReleaseLaw s) (low power clk : Bool) (p : Port) :
    ReleaseLaw (sampleReset
      { s with resetnLow := low, poweringUp := power, clkPresent := clk, port := p }) :=
  sampleReset_keepsRelease _ ((inputs_core s low power clk p).releaseLaw hs)

/-! ## Every step -/

/-- A row answers a next state that meets the release law. -/
def AnswersReleaseLaw (o : Host.Outcome State Fault Refusal) : Prop :=
  ∃ t, o = .next t ∧ ReleaseLaw t

theorem execSweepStep_releaseLaw {s : State} (hs : ReleaseLaw s) :
    AnswersReleaseLaw (execSweepStep s) := by
  refine ⟨_, rfl, ?_⟩
  split
  · exact hs
  · exact .ite (fun _ => workSweepStep_keepsRelease _ s hs) fun _ => hs

theorem execWarmRestartComplete_releaseLaw (part : RestartEnd) {s : State} (hs : ReleaseLaw s) :
    AnswersReleaseLaw (execWarmRestartComplete part s) := by
  refine ⟨_, rfl, ?_⟩
  split
  · exact .ite (fun _ => hs) fun _ => hs
  · exact finishRestart_keepsRelease _ s hs
  · exact hs

theorem execReplyJudge_releaseLaw (stop : Bool) (bytes : List Byte) {s : State}
    (hs : ReleaseLaw s) : AnswersReleaseLaw (execReplyJudge stop bytes s) := by
  refine ⟨_, rfl, .ite (fun _ => ?_) fun _ => hs⟩
  split
  · exact (discardBytes_core bytes s).releaseLaw hs
  · exact .ite (fun _ => (discardBytes_core bytes s).releaseLaw hs) fun _ =>
      (workReplyJudge_core _ stop bytes s).releaseLaw hs

theorem execReplyWindowClose_releaseLaw {s : State} (hs : ReleaseLaw s) :
    AnswersReleaseLaw (execReplyWindowClose s) := by
  refine ⟨_, rfl, ?_⟩
  split
  · exact hs
  · exact .ite (fun _ => (workReplyWindowClose_core _ s).releaseLaw hs) fun _ => hs

theorem execPoll_releaseLaw {s : State} (hs : ReleaseLaw s) : AnswersReleaseLaw (execPoll s) :=
  ⟨_, rfl, .ite (fun _ => .ite (fun _ => (link_core s _).releaseLaw hs) fun _ =>
    .ite (fun _ => (sendPoll_core s).releaseLaw hs) fun _ => hs) fun _ => hs⟩

theorem execLapseRequest_releaseLaw {s : State} (hs : ReleaseLaw s) :
    AnswersReleaseLaw (execLapseRequest s) := by
  refine ⟨_, rfl, ?_⟩
  split
  · exact .ite (fun _ => grantedPart_keepsRelease _ _ _ s hs) fun _ => hs
  · exact hs
  · exact hs

theorem execLinkRaise_releaseLaw {s : State} (hs : ReleaseLaw s) :
    AnswersReleaseLaw (execLinkRaise s) := by
  refine ⟨_, rfl, ?_⟩
  split
  · exact .ite (fun _ => grantedPart_keepsRelease _ _ _ s hs) fun _ => hs
  · exact hs
  · exact hs

theorem execColdReset_releaseLaw (cause : ResetCause) {s : State} (hs : ReleaseLaw s) :
    AnswersReleaseLaw (execColdReset cause s) := by
  cases cause with
  | resetn => exact ⟨_, rfl, sampleInputs_releaseLaw hs true s.poweringUp s.clkPresent _⟩
  | powerUp => exact ⟨_, rfl, releaseLaw_reset⟩

theorem answersReleaseLaw_of_command (code : Byte) {owner : State → State} {s : State}
    (ho : KeepsRelease owner) (hs : ReleaseLaw s) :
    AnswersReleaseLaw (.next (giveCommand code owner s)) :=
  ⟨_, rfl, giveCommand_keepsRelease code ho s hs⟩

theorem answersReleaseLaw_of_request (code : Byte) (engine : EngineAt) {work : State → State}
    {s : State} (hw : KeepsRelease work) (hs : ReleaseLaw s) :
    AnswersReleaseLaw (.next (giveCommand code (presentRequest engine work) s)) :=
  ⟨_, rfl, request_keepsRelease code engine hw s hs⟩

theorem answersReleaseLaw_of_report (kind : Byte) (refusal : State → Report → Option Verdict)
    (work : Report → Work → Work × Verdict) {s : State} (hs : ReleaseLaw s) :
    AnswersReleaseLaw (.next
      (reportStep kind (fun r u => answerWith u r (refusal u r) (work r)) s)) :=
  ⟨_, rfl, reportStep_keepsRelease kind
    (fun r => answerWith_keepsRelease r (refusal · r) (work r)) s hs⟩

theorem answersReleaseLaw_of_byte (address : BitVec 7) (value : DataByte) {s : State}
    (hs : ReleaseLaw s) : AnswersReleaseLaw (.next (writeByte address value s)) :=
  ⟨_, rfl, (writeByte_core address value s).releaseLaw hs⟩

theorem exec_releaseLaw (i : Instr) {s : State} (hs : ReleaseLaw s) :
    AnswersReleaseLaw (exec i s) := by
  cases i with
  | topoBegin => exact answersReleaseLaw_of_command _ workTopoBegin_keepsRelease hs
  | topoPut => exact answersReleaseLaw_of_command _ workTopoPut_keepsRelease hs
  | topoCommit engine => exact answersReleaseLaw_of_request _ engine workTopoCommit_keepsRelease hs
  | commitComplete =>
    exact ⟨_, rfl, .ite (fun _ => workCommitComplete_keepsRelease s hs) fun _ => hs⟩
  | groupSet => exact answersReleaseLaw_of_command _ workGroupSet_keepsRelease hs
  | setLimits engine => exact answersReleaseLaw_of_request _ engine workSetLimits_keepsRelease hs
  | setStamp => exact answersReleaseLaw_of_command _ workSetStamp_keepsRelease hs
  | setMode => exact answersReleaseLaw_of_command _ workSetMode_keepsRelease hs
  | grant => exact answersReleaseLaw_of_command _ workGrant_keepsRelease hs
  | lookup engine => exact answersReleaseLaw_of_request _ engine workLookup_keepsRelease hs
  | get engine => exact answersReleaseLaw_of_request _ engine workGet_keepsRelease hs
  | listOpen engine => exact answersReleaseLaw_of_request _ engine workListOpen_keepsRelease hs
  | listNext engine => exact answersReleaseLaw_of_request _ engine workListNext_keepsRelease hs
  | listClose engine => exact answersReleaseLaw_of_request _ engine workListClose_keepsRelease hs
  | agentInfo => exact answersReleaseLaw_of_command _ workAgentInfo_keepsRelease hs
  | ack engine => exact answersReleaseLaw_of_request _ engine workAck_keepsRelease hs
  | ackAll engine => exact answersReleaseLaw_of_request _ engine workAckAll_keepsRelease hs
  | clearDomain => exact answersReleaseLaw_of_command _ workClearDomain_keepsRelease hs
  | sweepStart =>
    exact ⟨_, rfl, .ite (fun _ => grantedWork_keepsRelease workSweepStart_keepsRelease s hs)
      fun _ => hs⟩
  | sweepStep => exact execSweepStep_releaseLaw hs
  | clearSummary => exact answersReleaseLaw_of_command _ workClearSummary_keepsRelease hs
  | raiseApp engine => exact answersReleaseLaw_of_request _ engine workRaiseApp_keepsRelease hs
  | restoreApp engine => exact answersReleaseLaw_of_request _ engine workRestoreApp_keepsRelease hs
  | warmRestart engine =>
    exact answersReleaseLaw_of_request _ engine workWarmRestart_keepsRelease hs
  | warmRestartComplete part => exact execWarmRestartComplete_releaseLaw part hs
  | badCommand code =>
    exact ⟨_, rfl, .ite (fun _ => hs) fun _ =>
      giveCommand_keepsRelease code (fun _ h => h.complete _ _) s hs⟩
  | overrun =>
    exact ⟨_, rfl, .ite (fun _ => giveCommand_keepsRelease 0x00 (fun _ h => h) s hs) fun _ => hs⟩
  | attnCauseWrite value => exact answersReleaseLaw_of_byte _ value hs
  | attnEnableWrite value => exact answersReleaseLaw_of_byte _ value hs
  | argWrite address value => exact answersReleaseLaw_of_byte address value hs
  | stampLatch => exact ⟨_, rfl, .ite (fun _ => (latchStamp_core s).releaseLaw hs) fun _ => hs⟩
  | coldReset cause => exact execColdReset_releaseLaw cause hs
  | resetRelease => exact ⟨_, rfl, sampleInputs_releaseLaw hs false false s.clkPresent s.port⟩
  | stampTick => exact ⟨_, rfl, .ite (fun _ => (tick_core s).releaseLaw hs) fun _ => hs⟩
  | verifyExpiry => exact ⟨_, rfl, .ite (fun _ => (expire_core s).releaseLaw hs) fun _ => hs⟩
  | verifyExpiryRequest =>
    exact ⟨_, rfl, .ite (fun _ => workVerifyExpiry_keepsRelease
      { granted .verify s with topo.verify.waiting := false } hs) fun _ => hs⟩
  | roundStart =>
    exact ⟨_, rfl, .ite (fun _ => ((link_core s _).trans (comeToNext_core _)).releaseLaw hs)
      fun _ => hs⟩
  | poll => exact execPoll_releaseLaw hs
  | replyWindowClose => exact execReplyWindowClose_releaseLaw hs
  | replyJudge stop bytes => exact execReplyJudge_releaseLaw stop bytes hs
  | reportRaise => exact answersReleaseLaw_of_report 1 raiseRefusal (fun r w => w.reportRaise r) hs
  | reportRestore =>
    exact answersReleaseLaw_of_report 2 restoreRefusal (fun r w => w.reportRestore r) hs
  | reportArrive =>
    exact answersReleaseLaw_of_report 3 arriveRefusal (fun r w => w.reportArrive r) hs
  | reportDepart =>
    exact answersReleaseLaw_of_report 4 departRefusal (fun r w => w.reportDepart r) hs
  | lapseRequest => exact execLapseRequest_releaseLaw hs
  | linkRaise => exact execLinkRaise_releaseLaw hs
  | windowRequestGrant =>
    exact ⟨_, rfl, .ite (fun _ => grantedWork_keepsRelease (windowWork_keepsRelease _) s hs)
      fun _ => hs⟩
  | clkAbsent => exact ⟨_, rfl, (inputs_core s _ _ false s.port).releaseLaw hs⟩
  | clkResumed => exact ⟨_, rfl, sampleInputs_releaseLaw hs s.resetnLow s.poweringUp true s.port⟩

/-- Settles O52: every row leaves Release Control and the topology state, hands FATAL_HELD off,
withdraws, or moves them past checks that the law asks for. -/
theorem releaseLawKept : Obligations.ReleaseLawKept := by
  unfold Obligations.ReleaseLawKept
  intro s t hs h
  unfold step at h
  split at h
  · cases h
    exact hs
  · next c rest _ =>
    obtain ⟨u, hu, law⟩ := exec_releaseLaw c (s := s.withPending rest) hs
    rw [hu] at h
    cases h
    exact law

end Sys2Proof.Machine

/-!
SET-MODE and GRANT: their checks in order and what they leave (R130, R131, R134, R137).
-/

namespace Sys2Proof.Machine

/-! ## SET-MODE -/

theorem exec_setMode (s : State) (h : s.takes) :
    exec .setMode s = .next (workSetMode (s.taken 0x30)) :=
  congrArg Host.Outcome.next (giveCommand_takes 0x30 workSetMode s h)

section
variable {u : State}

/-- SET-MODE that fails a check answers it and changes nothing (R130, R137). -/
theorem workSetMode_refused (result : Byte) (h : modeCheck u = result) (refused : result ≠ 0x00) :
    workSetMode u = complete result (releaseResponse u) u := by
  subst h
  exact if_neg refused

theorem workSetMode_passes (h : modeCheck u = Result.ok) {run : Bool}
    (argument : (u.window.argAt 0 == 1) = run) : workSetMode u
      = complete Result.ok (releaseResponse { u with release := u.release.setMode run })
          { u with release := u.release.setMode run } := by
  subst argument
  exact if_pos h

theorem modeCheck_above (h : 1 < (u.window.argAt 0).toNat) : modeCheck u = 0x02 := by
  have not_hold : u.window.argAt 0 ≠ 0 := fun zero => by rw [zero] at h; exact absurd h (by decide)
  have not_run : u.window.argAt 0 ≠ 1 := fun one => by rw [one] at h; exact absurd h (by decide)
  unfold modeCheck
  rw [if_neg not_hold, if_neg not_run]
  rfl

theorem modeCheck_run (h : u.window.argAt 0 = 1) :
    modeCheck u = if u.topo.state = .loaded then 0x00 else 0x04 := by
  unfold modeCheck
  rw [h]
  rfl

theorem modeCheck_hold (h : u.window.argAt 0 = 0) : modeCheck u = 0x00 := if_pos h

end

/-- Settles O19: by the argument byte, above 1, RUN or HOLD. -/
theorem setModeAnswers : Obligations.SetModeAnswers := by
  unfold Obligations.SetModeAnswers
  intro s takes
  rw [exec_setMode s takes]
  refine ⟨fun above => ?_, fun run unloaded => ?_, fun run loaded => ?_, fun hold r hr => ?_⟩
  · rw [workSetMode_refused 0x02 (modeCheck_above (u := s.taken 0x30) above) (by decide)]
    rfl
  · have refused := (modeCheck_run (u := s.taken 0x30) run).trans (if_neg unloaded)
    rw [workSetMode_refused 0x04 refused (by decide)]
    rfl
  · have passes := (modeCheck_run (u := s.taken 0x30) run).trans (if_pos loaded)
    have response : releaseResponse { s.taken 0x30 with release := s.release.setMode true }
        = [1, s.release.state.code, byte s.release.fatalCopy, 1] := by
      show [1, _, _, s.topo.state.code] = _
      rw [loaded]
      rfl
    rw [workSetMode_passes passes (beq_iff_eq.mpr run)]
    exact congrArg (fun bytes => Host.Outcome.next (complete Result.ok bytes _)) response
  · subst hr
    rw [workSetMode_passes (modeCheck_hold (u := s.taken 0x30) hold)
      (beq_eq_false_iff_ne.mpr fun run => absurd (hold.symm.trans run) (by decide))]
    rfl

/-! ## GRANT -/

theorem exec_grant (s : State) (h : s.takes) :
    exec .grant s = .next (workGrant (s.taken 0x31)) :=
  congrArg Host.Outcome.next (giveCommand_takes 0x31 workGrant s h)

section
variable {u : State}

/-- GRANT that fails a check answers it and changes nothing (R134, R137). -/
theorem workGrant_refused (result : Byte) (h : grantCheck u = result) (refused : result ≠ 0x00) :
    workGrant u = complete result (releaseResponse u) u := by
  subst h
  exact if_neg refused

theorem workGrant_passes (h : grantCheck u = Result.ok) : workGrant u
    = complete Result.ok (releaseResponse { u with release.state := .granted })
        { u with release.state := .granted } := if_pos h

theorem grantCheck_fatal (h : u.release.fatalCopy ≠ 0) : grantCheck u = 0x08 := if_pos h

theorem grantCheck_mode (unheld : u.release.fatalCopy = 0) (h : u.release.mode ≠ .run) :
    grantCheck u = 0x03 := (if_neg (not_not.mpr unheld)).trans (if_pos h)

theorem grantCheck_topology (unheld : u.release.fatalCopy = 0) (run : u.release.mode = .run)
    (h : u.topo.state ≠ .loaded) : grantCheck u = 0x04 :=
  (if_neg (not_not.mpr unheld)).trans ((if_neg (not_not.mpr run)).trans (if_pos h))

theorem grantCheck_last (unheld : u.release.fatalCopy = 0) (run : u.release.mode = .run)
    (loaded : u.topo.state = .loaded) :
    grantCheck u = if u.release.state = .granted then 0x07 else 0x00 :=
  (if_neg (not_not.mpr unheld)).trans
    ((if_neg (not_not.mpr run)).trans (if_neg (not_not.mpr loaded)))

end

/-- RELEASE is high in a live part whose release state is GRANTED (R135). -/
theorem releasePin_of_granted {s : State} (live : s.live = true)
    (granted : s.release.state = .granted) : s.releasePin = true := by
  unfold State.releasePin
  rw [live, granted]
  rfl

/-- Settles O20: by the first check of R134 that fails; past all four, GRANTED drives RELEASE. -/
theorem grantAnswers : Obligations.GrantAnswers := by
  unfold Obligations.GrantAnswers
  intro s takes
  rw [exec_grant s takes]
  refine ⟨fun held => ?_, fun unheld => ⟨fun mode => ?_, fun run => ⟨fun unloaded => ?_,
    fun loaded => ⟨fun already => ?_, fun ungranted => ?_⟩⟩⟩⟩
  · rw [workGrant_refused 0x08 (grantCheck_fatal (u := s.taken 0x31) held) (by decide)]
    rfl
  · rw [workGrant_refused 0x03 (grantCheck_mode (u := s.taken 0x31) unheld mode) (by decide)]
    rfl
  · have refused := grantCheck_topology (u := s.taken 0x31) unheld run unloaded
    rw [workGrant_refused 0x04 refused (by decide)]
    rfl
  · have refused := (grantCheck_last (u := s.taken 0x31) unheld run loaded).trans (if_pos already)
    rw [workGrant_refused 0x07 refused (by decide)]
    rfl
  · have passes := (grantCheck_last (u := s.taken 0x31) unheld run loaded).trans (if_neg ungranted)
    have live := ((clocked_iff s).mp takes.1).1
    have response : releaseResponse { s.taken 0x31 with release.state := .granted }
        = [1, 1, 0, 1] := by
      show [s.release.mode.code, 1, byte s.release.fatalCopy, s.topo.state.code] = _
      rw [run, unheld, loaded]
      rfl
    refine ⟨_, congrArg _ (workGrant_passes passes), releasePin_of_granted live rfl, ?_⟩
    rw [response]
    rfl

end Sys2Proof.Machine

/-!
What the pins show, and what each window address reads (R135, R147, R153, R187, R189, R190).
-/

namespace Sys2Proof.Machine

/-! ## The pins -/

theorem live_iff (s : State) : s.live = true ↔ s.inReset = false ∧ s.resetnLow = false := by
  unfold State.live
  simp

/-- ATTN and RELEASE of a part at work (R135, R153). -/
theorem pins_of_live {s : State} (live : s.live = true) :
    (s.attn = true ↔ s.window.cause &&& s.window.enable ≠ 0)
      ∧ (s.releasePin = true ↔ s.release.state = .granted) := by
  unfold State.attn State.releasePin
  rw [live]
  simp

/-- ATTN and RELEASE of a part in cold reset or with RESETN low (R135, R186). -/
theorem pins_of_not_live {s : State} (held : s.live = false) :
    s.attn = false ∧ s.releasePin = false := by
  unfold State.attn State.releasePin
  rw [held]
  exact ⟨rfl, rfl⟩

/-! ## Packed bytes -/

/-- A field put above the bits that stand is added at its place (R189). -/
theorem toNat_or_shiftLeft (a b : Byte) (k : Nat) (low : a.toNat < 2 ^ k)
    (fits : 2 ^ k * b.toNat < 256) : (a ||| b <<< k).toNat = a.toNat + 2 ^ k * b.toNat := by
  have shifted : b.toNat <<< k % 2 ^ 8 = 2 ^ k * b.toNat := by
    rw [Nat.shiftLeft_eq, Nat.mul_comm]
    exact Nat.mod_eq_of_lt fits
  rw [BitVec.toNat_or, BitVec.toNat_shiftLeft, shifted, Nat.lor_comm,
    ← Nat.two_pow_add_eq_or_of_lt low, Nat.add_comm]

theorem bit_toNat_lt (b : Bool) : (bit b).toNat < 2 := by cases b <;> decide

theorem CmdState.code_toNat_lt (c : CmdState) : c.code.toNat < 4 := by cases c <;> decide

theorem Mode.code_toNat_lt (m : Mode) : m.code.toNat < 2 := by cases m <;> decide

theorem ReleaseState.code_toNat_lt (r : ReleaseState) : r.code.toNat < 3 := by cases r <;> decide

theorem TopoState.code_toNat_lt (t : TopoState) : t.code.toNat < 3 := by cases t <;> decide

/-- CSTAT: the command state below, the OVERRUN flag at bit 7 (R189). -/
theorem cstat_toNat (s : State) : s.cstat.toNat
    = s.window.cmdState.code.toNat + 128 * (bit s.window.overrun).toNat := by
  have state := s.window.cmdState.code_toNat_lt
  have overrun := bit_toNat_lt s.window.overrun
  exact toNat_or_shiftLeft _ _ 7 (by omega) (by omega)

/-- STATE: mode, release state, topology state and SEQ_SPENT, upward from bit 0 (R189). -/
theorem stateRegister_toNat (s : State) : s.stateRegister.toNat
    = s.release.mode.code.toNat + 2 * s.release.state.code.toNat
      + 8 * s.topo.state.code.toNat + 32 * (bit s.engine.seqSpent).toNat := by
  have mode := s.release.mode.code_toNat_lt
  have release := s.release.state.code_toNat_lt
  have topology := s.topo.state.code_toNat_lt
  have spent := bit_toNat_lt s.engine.seqSpent
  have two := toNat_or_shiftLeft s.release.mode.code s.release.state.code 1 (by omega) (by omega)
  have three := toNat_or_shiftLeft (s.release.mode.code ||| s.release.state.code <<< 1)
    s.topo.state.code 3 (by omega) (by omega)
  unfold State.stateRegister
  rw [toNat_or_shiftLeft _ _ 5 (by omega) (by omega), three, two]
  omega

/-- A byte of a wider value, shifted down and cut off. -/
theorem setWidth_ushiftRight {w : Nat} (v : BitVec w) (k : Nat) :
    (v >>> k).setWidth 8 = v.extractLsb' k 8 := by
  refine BitVec.eq_of_toNat_eq ?_
  rw [BitVec.toNat_setWidth, BitVec.toNat_ushiftRight, BitVec.extractLsb'_toNat]

theorem setWidth_eq_extractLsb' {w : Nat} (v : BitVec w) :
    v.setWidth 8 = v.extractLsb' 0 8 := by
  rw [← setWidth_ushiftRight, BitVec.ushiftRight_zero]

/-! ## Reads -/

/-- SUMMARY and the counts, held for the transaction once read (R147, R190). -/
theorem readAt_held (s : State) :
    readAt 0x06 s = (s.summary.word.extractLsb' 8 8,
        { s with window.heldSummary := some s.summary.word })
      ∧ readAt 0x07 s = ((s.window.heldSummary.getD s.summary.word).extractLsb' 0 8, s)
      ∧ readAt 0x08 s = (byte s.shownCounts.unitStanding, holdCounts s)
      ∧ readAt 0x09 s = (byte s.shownCounts.fieldStanding, holdCounts s)
      ∧ readAt 0x0A s = (byte s.shownCounts.fatalHeld, holdCounts s)
      ∧ readAt 0x0B s = (byte s.shownCounts.free, holdCounts s) := by
  rw [← setWidth_ushiftRight, ← setWidth_eq_extractLsb']
  exact ⟨rfl, rfl, rfl, rfl, rfl, rfl⟩

/-- The clock at the read that latches it, and the latch (R190). -/
theorem readAt_stamp (s : State) :
    readAt 0x0C s = (s.clock.extractLsb' 24 8, { s with window.stampLatch := s.clock })
      ∧ readAt 0x0D s = (s.window.stampLatch.extractLsb' 16 8, s)
      ∧ readAt 0x0E s = (s.window.stampLatch.extractLsb' 8 8, s)
      ∧ readAt 0x0F s = (s.window.stampLatch.extractLsb' 0 8, s) := by
  simp only [← setWidth_ushiftRight]
  exact ⟨rfl, rfl, rfl, rfl⟩

section
variable {a : BitVec 7} (s : State)

theorem readAt_arg (least : 0x10 ≤ a.toNat) (most : a.toNat ≤ 0x2F) :
    readAt a s = (s.window.arg.toList.getD (a.toNat - 0x10) 0, s) := by
  unfold readAt
  simp (disch := omega) only [if_neg, if_pos]

theorem readAt_resp (least : 0x30 ≤ a.toNat) (most : a.toNat ≤ 0x5F) :
    readAt a s = (s.window.resp.toList.getD (a.toNat - 0x30) 0, s) := by
  unfold readAt
  simp (disch := omega) only [if_neg, if_pos]

theorem readAt_above (least : 0x60 ≤ a.toNat) : readAt a s = (0, s) := by
  unfold readAt
  simp (disch := omega) only [if_neg]

end

/-- The address that lies k above another. -/
theorem address_toNat (base k : Nat) (h : base + k < 128) :
    (BitVec.ofNat 7 (base + k)).toNat = base + k := by
  rw [BitVec.toNat_ofNat]
  exact Nat.mod_eq_of_lt h

theorem toList_getD {n : Nat} (v : Vector Byte n) (k : Fin n) : v.toList.getD k.val 0 = v[k] := by
  simp

theorem readAt_argByte (s : State) (k : Fin 32) :
    readAt (BitVec.ofNat 7 (0x10 + k.val)) s = (s.window.arg[k], s) := by
  have address := address_toNat 0x10 k.val (by omega)
  rw [readAt_arg s (by omega) (by omega), address, Nat.add_sub_cancel_left, toList_getD]

theorem readAt_respByte (s : State) (k : Fin 48) :
    readAt (BitVec.ofNat 7 (0x30 + k.val)) s = (s.window.resp[k], s) := by
  have address := address_toNat 0x30 k.val (by omega)
  rw [readAt_resp s (by omega) (by omega), address, Nat.add_sub_cancel_left, toList_getD]

theorem readAt_aboveByte (s : State) (k : Fin 32) :
    readAt (BitVec.ofNat 7 (0x60 + k.val)) s = (0, s) := by
  have address := address_toNat 0x60 k.val (by omega)
  exact readAt_above s (by omega)

/-- Settles O9: the pins by whether the part is live, the addresses each by its read. -/
theorem pinsAndRegistersShow : Obligations.PinsAndRegistersShow := by
  unfold Obligations.PinsAndRegistersShow
  rintro s c rfl
  obtain ⟨summaryHigh, summaryLow, unit, field, fatal, free⟩ := readAt_held s
  obtain ⟨clock, latch16, latch8, latch0⟩ := readAt_stamp s
  refine ⟨fun running high => pins_of_live ((live_iff s).mpr ⟨running, high⟩), fun held => ?_, rfl,
    cstat_toNat s, rfl, rfl, rfl, stateRegister_toNat s, rfl, rfl, summaryHigh, summaryLow, unit,
    field, fatal, free, clock, latch16, latch8, latch0, readAt_argByte s, readAt_respByte s,
    readAt_aboveByte s⟩
  refine pins_of_not_live (Bool.eq_false_iff.mpr fun live => ?_)
  obtain ⟨running, high⟩ := (live_iff s).mp live
  rcases held with reset | low
  · rw [running] at reset
    cases reset
  · rw [high] at low
    cases low

end Sys2Proof.Machine

/-!
The steps of a part that is held in cold reset, or whose RESETN is low, and of one without CLK
(R186, R188, R203).
-/

namespace Sys2Proof.Machine

/-! ## The two ways to be held -/

theorem live_false_of_held {s : State} (held : s.inReset = true ∨ s.resetnLow = true) :
    s.live = false := by
  unfold State.live
  rcases held with reset | low
  · rw [reset, Bool.not_true, Bool.false_and]
  · rw [low, Bool.not_true, Bool.and_false]

/-- A part that is held takes no step that follows CLK. -/
theorem clocked_false_of_not_live {s : State} (held : s.live = false) : s.clocked = false := by
  unfold State.clocked
  rw [held, Bool.false_and]

theorem clocked_false_without_clk {s : State} (absent : s.clkPresent = false) :
    s.clocked = false := by
  unfold State.clocked
  rw [absent, Bool.and_false]

/-! ## Commands -/

/-- Every command row gives a command to its owner (R192, R196, R197). -/
theorem exec_command {i : Instr} (h : isCommand i = true) :
    ∃ code owner, ∀ s, exec i s = .next (giveCommand code owner s) := by
  cases i with
  | badCommand code =>
    have undefined : Config.commandCodes.contains code = false := by
      simpa only [isCommand, Instr.badCommandOk, Bool.not_eq_true'] using h
    exact ⟨_, _, fun s => congrArg Host.Outcome.next (if_neg (by rw [undefined]; decide))⟩
  | commitComplete | sweepStart | sweepStep | warmRestartComplete | overrun | attnCauseWrite
  | attnEnableWrite | argWrite | stampLatch | coldReset | resetRelease | stampTick | verifyExpiry
  | verifyExpiryRequest | roundStart | poll | replyWindowClose | replyJudge | reportRaise
  | reportRestore | reportArrive | reportDepart | lapseRequest | linkRaise | windowRequestGrant
  | clkAbsent | clkResumed => exact absurd h Bool.false_ne_true
  | _ => exact ⟨_, _, fun _ => rfl⟩

/-- A CMD write that no edge of CLK follows is dropped, and its transaction ends (R186, R203). -/
theorem exec_command_dropped {i : Instr} {s : State} (unclocked : s.clocked = false)
    (command : isCommand i = true ∨ (i = .overrun ∧ s.window.cmdState = .busy)) :
    exec i s = .next (csnRise s) := by
  rcases command with command | ⟨rfl, busy⟩
  · obtain ⟨code, owner, given⟩ := exec_command command
    rw [given, giveCommand_dropped code owner s (.inl unclocked)]
  · refine congrArg Host.Outcome.next ((if_pos busy).trans ?_)
    exact giveCommand_dropped _ _ s (.inl unclocked)

/-! ## Bytes -/

/-- The rows of the bytes are writes of a byte at an address (R188). -/
theorem exec_byte {i : Instr} {b : DataByte}
    (h : i = .attnCauseWrite b ∨ i = .attnEnableWrite b ∨ ∃ a, i = .argWrite a b) :
    ∃ a, ∀ s, exec i s = .next (writeByte a b s) := by
  rcases h with rfl | rfl | ⟨a, rfl⟩
  · exact ⟨_, fun _ => rfl⟩
  · exact ⟨_, fun _ => rfl⟩
  · exact ⟨a, fun _ => rfl⟩

/-- A byte given while the part is held moves the port by its place alone (R188; log entry 17). -/
theorem exec_byte_held {i : Instr} {b : DataByte} {s : State} (held : s.live = false)
    (h : i = .attnCauseWrite b ∨ i = .attnEnableWrite b ∨ ∃ a, i = .argWrite a b) :
    (b.csn = .only ∨ b.csn = .last → exec i s = .next (csnRise s))
      ∧ (b.csn = .first → exec i s = .next { s with port := .cut })
      ∧ (b.csn = .next → exec i s = .next s) := by
  obtain ⟨a, written⟩ := exec_byte h
  rw [written, writeByte_held a b s held]
  refine ⟨?_, fun first => by rw [first]; rfl, fun next => by rw [next]; rfl⟩
  rintro (only | last)
  · rw [only]; rfl
  · rw [last]; rfl

/-! ## Steps behind a gate -/

/-- A step behind a gate that is shut leaves the state as it is. -/
theorem next_of_shut {gate : Bool} (shut : gate = false) (t s : State) :
    (.next (if gate then t else s) : Host.Outcome State Fault Refusal) = .next s := by
  rw [if_neg (by rw [shut]; exact Bool.false_ne_true)]

section
variable {s : State}

/-- The steps that follow CLK beside the commands have no effect without it (R203; log entry 6). -/
theorem exec_unclocked {i : Instr} (unclocked : s.clocked = false)
    (h : i ∈ ([.poll, .roundStart, .stampTick, .verifyExpiry, .replyWindowClose] : List Instr)
      ∨ ∃ stop bytes, i = .replyJudge stop bytes) : exec i s = .next s := by
  have listens : s.listens = false := by
    unfold State.listens
    rw [unclocked, Bool.false_and]
  simp only [List.mem_cons, List.not_mem_nil, or_false] at h
  rcases h with (rfl | rfl | rfl | rfl | rfl) | ⟨stop, bytes, rfl⟩
  · exact next_of_shut unclocked _ s
  · exact next_of_shut (by rw [unclocked]; rfl) _ s
  · exact next_of_shut unclocked _ s
  · exact next_of_shut (by rw [unclocked]; rfl) _ s
  · show execReplyWindowClose s = _
    unfold execReplyWindowClose
    split
    · rfl
    · exact next_of_shut (by rw [listens]; rfl) _ s
  · exact next_of_shut listens _ s

theorem linkGranted_held (held : s.live = false) : s.linkGranted = false := by
  unfold State.linkGranted
  rw [held, Bool.false_and]

theorem execSweepStep_held (held : s.live = false) : execSweepStep s = .next s := by
  unfold execSweepStep State.sweepStepDue
  split
  · rfl
  · exact next_of_shut (by rw [held]; rfl) _ s

theorem execWarmRestartComplete_held (part : RestartEnd) (held : s.live = false) :
    execWarmRestartComplete part s = .next s := by
  unfold execWarmRestartComplete
  rw [held]
  cases s.window.restart with
  | none => rfl
  | some r => rfl

/-- A request is granted and worked only in a part that is live: by the window, the verify timer or
the link (R14, R186). -/
theorem exec_grants_held {i : Instr} (held : s.live = false)
    (h : i ∈ ([.windowRequestGrant, .sweepStart, .verifyExpiryRequest, .reportRaise,
      .reportRestore, .reportArrive, .reportDepart, .lapseRequest, .linkRaise] : List Instr)) :
    exec i s = .next s := by
  have link := linkGranted_held held
  simp only [List.mem_cons, List.not_mem_nil, or_false] at h
  rcases h with rfl | rfl | rfl | rfl | rfl | rfl | rfl | rfl | rfl
  · exact next_of_shut (by unfold State.windowGranted; rw [held]; rfl) _ s
  · exact next_of_shut (by unfold State.sweepGranted; rw [held]; rfl) _ s
  · exact next_of_shut (by unfold State.verifyGranted; rw [held]; rfl) _ s
  · exact congrArg _ (reportStep_notGranted 1 _ s link)
  · exact congrArg _ (reportStep_notGranted 2 _ s link)
  · exact congrArg _ (reportStep_notGranted 3 _ s link)
  · exact congrArg _ (reportStep_notGranted 4 _ s link)
  · exact execLapseRequest_disabled s (.inl link)
  · exact execLinkRaise_disabled s (.inl link)

/-- Every other row leaves a part that is held as it is: a step that follows CLK, the grant of a
request, or the end of a work (R186). -/
theorem exec_held {i : Instr} (held : s.live = false) (input : isInput i = false)
    (command : ¬ (isCommand i = true ∨ (i = .overrun ∧ s.window.cmdState = .busy)))
    (byte : ∀ b : DataByte, i ≠ .attnCauseWrite b ∧ i ≠ .attnEnableWrite b
      ∧ ∀ a, i ≠ .argWrite a b) : exec i s = .next s := by
  have unclocked := clocked_false_of_not_live held
  cases i with
  | coldReset | resetRelease | clkAbsent | clkResumed => cases input
  | attnCauseWrite b => exact absurd rfl (byte b).1
  | attnEnableWrite b => exact absurd rfl (byte b).2.1
  | argWrite a b => exact absurd rfl ((byte b).2.2 a)
  | badCommand code =>
    have defined : Config.commandCodes.contains code = true := by
      simpa [isCommand, Instr.badCommandOk] using command
    exact congrArg Host.Outcome.next (if_pos defined)
  | overrun => exact execOverrun_disabled s fun busy => command (.inr ⟨rfl, busy⟩)
  | stampTick | verifyExpiry | roundStart | poll | replyWindowClose =>
    exact exec_unclocked unclocked (.inl (by decide))
  | replyJudge stop bytes => exact exec_unclocked unclocked (.inr ⟨stop, bytes, rfl⟩)
  | windowRequestGrant | sweepStart | verifyExpiryRequest | reportRaise | reportRestore
  | reportArrive | reportDepart | lapseRequest | linkRaise =>
    exact exec_grants_held held (by decide)
  | commitComplete => exact next_of_shut (by rw [held]; rfl) _ s
  | stampLatch => exact next_of_shut (by rw [held]; rfl) _ s
  | sweepStep => exact execSweepStep_held held
  | warmRestartComplete part => exact execWarmRestartComplete_held part held
  | _ => exact absurd (.inl rfl) command

end

/-- Settles O5: a part that is held is not live, hence not clocked either. -/
theorem heldSteps : Obligations.HeldSteps := by
  unfold Obligations.HeldSteps
  rintro i s _ command command_iff rfl
  refine ⟨fun held => ?_, fun _ _ absent => ?_⟩
  · have still := live_false_of_held held
    refine ⟨fun given => ?_, fun b => exec_byte_held still, fun input other byte => ?_⟩
    · exact exec_command_dropped (clocked_false_of_not_live still) (command_iff.mp given)
    · exact exec_held still input (fun given => other (command_iff.mpr given)) byte
  · have unclocked := clocked_false_without_clk absent
    exact ⟨fun given => exec_command_dropped unclocked (command_iff.mp given),
      exec_unclocked unclocked⟩

end Sys2Proof.Machine

/-!
The bytes written to the window and the read of 0x0C (R151, R152, R187, R188, R190, R191).
-/

namespace Sys2Proof.Machine

/-! ## What a byte does to its register -/

/-- A byte written to ATTN_CAUSE clears the causes whose bits are 1 (R151). -/
theorem writeAt_cause (v : Byte) (s : State) :
    writeAt 0x03 v s = { s with window.cause := s.window.cause &&& ~~~v } := rfl

/-- A byte written to ATTN_ENABLE replaces the enables (R152). -/
theorem writeAt_enable (v : Byte) (s : State) :
    writeAt 0x04 v s = { s with window.enable := v } := rfl

theorem setIfInBounds_eq_set {n : Nat} (v : Vector Byte n) {k : Nat} (value : Byte) (h : k < n) :
    v.setIfInBounds k value = v.set k value h := by
  ext j hj
  rw [Vector.getElem_setIfInBounds, Vector.getElem_set]

/-- A byte written to an ARG register is stored (R191). -/
theorem writeAt_arg (k : Fin 32) (v : Byte) (s : State) :
    writeAt (BitVec.ofNat 7 (0x10 + k.val)) v s
      = { s with window.arg := s.window.arg.set k.val v k.isLt } := by
  have address := address_toNat 0x10 k.val (by omega)
  have cause : BitVec.ofNat 7 (0x10 + k.val) ≠ 0x03 :=
    ne_of_apply_ne BitVec.toNat (by rw [address]; show _ ≠ 3; omega)
  have enable : BitVec.ofNat 7 (0x10 + k.val) ≠ 0x04 :=
    ne_of_apply_ne BitVec.toNat (by rw [address]; show _ ≠ 4; omega)
  unfold writeAt
  rw [if_neg cause, if_neg enable, if_pos (by omega), address, Nat.add_sub_cancel_left,
    setIfInBounds_eq_set _ _ k.isLt]

/-- Every other address ignores the byte (R187). -/
theorem writeAt_ignored (a : BitVec 7) (v : Byte) (s : State) (row : Instr.argWriteOk a = true)
    (outside : a.toNat < 0x10 ∨ 0x2F < a.toNat) : writeAt a v s = s := by
  unfold Instr.argWriteOk at row
  simp only [Bool.and_eq_true, bne_iff_ne] at row
  obtain ⟨⟨_, cause⟩, enable⟩ := row
  unfold writeAt
  rw [if_neg cause, if_neg enable, if_neg (by omega)]

/-! ## What CSN does beside it -/

/-- t is s with the window w, but that the port and the snapshots of the transaction are t's own. -/
def Moved (s t : State) (w : Window) : Prop :=
  t = { s with
    port := t.port
    window := { w with
      heldSummary := t.window.heldSummary, heldCounts := t.window.heldCounts } }

/-- The byte opens its write transaction or belongs to one that runs (R188). -/
def State.RunsWrite (s : State) (b : DataByte) : Prop :=
  b.csn.opens = true ∨ s.port.writes = true

theorem csn_opens_iff (c : Csn) : c.opens = true ↔ c = .only ∨ c = .first := by
  cases c <;> decide

theorem Port.writes_iff (p : Port) : p.writes = true ↔ ∃ a code, p = .writing a code := by
  cases p <;> simp [Port.writes]

theorem State.runsWrite_iff (s : State) (b : DataByte) :
    s.RunsWrite b ↔ b.csn = .only ∨ b.csn = .first ∨ ∃ a code, s.port = .writing a code := by
  unfold State.RunsWrite
  rw [csn_opens_iff, Port.writes_iff, or_assoc]

section
variable {s : State} {b : DataByte}

/-- A byte whose transaction runs does at its register what writeAt does there. -/
theorem writeByte_moved {a : BitVec 7} {w : Window} (live : s.live = true)
    (register : writeAt a b.value s = { s with window := w }) (runs : s.RunsWrite b) :
    Moved s (writeByte a b s) w := by
  obtain ⟨port, summary, counts, written⟩ := writeByte_runs a b s live runs
  rw [written, register]
  rfl

/-- A byte of no running transaction moves no register, only what the rise of CSN moves. -/
theorem writeByte_moved_stray (a : BitVec 7) (live : s.live = true) (stray : ¬ s.RunsWrite b) :
    Moved s (writeByte a b s) s.window := by
  obtain ⟨opens, writes⟩ := not_or.mp stray
  rw [writeByte_stray a b s live (by simpa using opens) (by simpa using writes)]
  split
  · rfl
  · rfl

/-- A byte to an address without a register of its own moves none, in a transaction or not. -/
theorem writeByte_moved_ignored {a : BitVec 7} (live : s.live = true)
    (ignored : writeAt a b.value s = s) : Moved s (writeByte a b s) s.window := by
  by_cases runs : s.RunsWrite b
  · exact writeByte_moved live ignored runs
  · exact writeByte_moved_stray a live runs

/-! ## The read of 0x0C -/

theorem execStampLatch_uncut (live : s.live = true) (uncut : s.port ≠ .cut) :
    execStampLatch s = .next { s with window.stampLatch := s.clock } := by
  unfold execStampLatch
  rw [live, bne_iff_ne.mpr uncut]
  rfl

theorem execStampLatch_cut (cut : s.port = .cut) : execStampLatch s = .next s := by
  unfold execStampLatch
  rw [cut, bne_self_eq_false, Bool.and_false, if_neg Bool.false_ne_true]

end

/-- Settles O7: each register by what writeAt does at its address. -/
theorem windowBytes : Obligations.WindowBytes := by
  unfold Obligations.WindowBytes
  intro s b runs live runs_iff moved moved_iff
  obtain rfl : runs = s.RunsWrite b := propext (runs_iff.trans (s.runsWrite_iff b).symm)
  obtain rfl : moved = Moved s := funext fun t => funext fun w => propext (moved_iff t w)
  refine ⟨⟨_, rfl, writeByte_moved live (writeAt_cause _ s), writeByte_moved_stray _ live⟩,
    ⟨_, rfl, writeByte_moved live (writeAt_enable _ s), writeByte_moved_stray _ live⟩,
    fun k => ⟨_, rfl, writeByte_moved live (writeAt_arg k _ s), writeByte_moved_stray _ live⟩,
    fun a row outside =>
      ⟨_, rfl, writeByte_moved_ignored live (writeAt_ignored a _ s row outside)⟩,
    fun uncut => execStampLatch_uncut live uncut, execStampLatch_cut⟩

end Sys2Proof.Machine

/-!
GET and AGENT-INFO: the bytes of the entry view, the handle match, and the roster record (R6, R159
to R161, R170).
-/

namespace Sys2Proof.Machine

/-! ## Numbers in the entry view -/

/-- The bytes above the last one of a number, and the last one, spell it (R187). -/
theorem ofNat_append_byte (w n : Nat) :
    (BitVec.ofNat w (n / 256) ++ byte n : BitVec (w + 8)) = BitVec.ofNat (w + 8) n := by
  refine BitVec.eq_of_getLsbD_eq fun i hi => ?_
  unfold byte
  rw [BitVec.getLsbD_append, BitVec.getLsbD_ofNat, BitVec.getLsbD_ofNat, BitVec.getLsbD_ofNat]
  split
  · next low => simp only [low, hi, decide_true]
  · next high =>
    have place : 8 + (i - 8) = i := by omega
    have above : n / 256 = n / 2 ^ 8 := rfl
    rw [above, Nat.testBit_div_two_pow, Nat.add_comm, place]
    simp only [hi, show i - 8 < w by omega, decide_true]

/-- The two bytes of be16 spell the number. -/
theorem be16_spells (n : Nat) : (byte (n / 256) ++ byte n : BitVec 16) = BitVec.ofNat 16 n :=
  ofNat_append_byte 8 n

/-- The four bytes of be32 spell the number. -/
theorem be32_spells (n : Nat) :
    (byte (n / 16777216) ++ byte (n / 65536) ++ byte (n / 256) ++ byte n : BitVec 32)
      = BitVec.ofNat 32 n := by
  have third : n / 65536 = n / 256 / 256 := (Nat.div_div_eq_div_mul n 256 256).symm
  have fourth : n / 16777216 = n / 65536 / 256 := (Nat.div_div_eq_div_mul n 65536 256).symm
  calc (byte (n / 16777216) ++ byte (n / 65536) ++ byte (n / 256) ++ byte n : BitVec 32)
      = (BitVec.ofNat 16 (n / 65536) ++ byte (n / 256) ++ byte n : BitVec 32) := by
        rw [fourth, be16_spells]
    _ = (BitVec.ofNat 24 (n / 256) ++ byte n : BitVec 32) := by
        rw [third]
        exact congrArg (fun x : BitVec 24 => x ++ byte n) (ofNat_append_byte 16 (n / 256))
    _ = BitVec.ofNat 32 n := ofNat_append_byte 24 n

/-! ## The action and flags byte -/

theorem Action.code_toNat_lt (a : Action) : a.code.toNat < 3 := by cases a <;> decide

theorem Domain.code_toNat_lt (d : Domain) : d.code.toNat < 2 := by cases d <;> decide

/-- The fields of the action and flags byte, upward from bit 0 (R160). -/
theorem Entry.actionFlags_toNat (e : Entry) : e.actionFlags.toNat
    = e.logged.code.toNat + 4 * e.executed.code.toNat + 16 * (bit e.escalated).toNat
      + 32 * (bit e.latching).toNat + 64 * (bit e.sweepMark).toNat
      + 128 * e.domain.code.toNat := by
  have logged := e.logged.code_toNat_lt
  have executed := e.executed.code_toNat_lt
  have escalated := bit_toNat_lt e.escalated
  have latching := bit_toNat_lt e.latching
  have mark := bit_toNat_lt e.sweepMark
  have domain := e.domain.code_toNat_lt
  have actions := toNat_or_shiftLeft e.logged.code e.executed.code 2 (by omega) (by omega)
  have flag4 := toNat_or_shiftLeft _ (bit e.escalated) 4 (by rw [actions]; omega) (by omega)
  have flag5 := toNat_or_shiftLeft _ (bit e.latching) 5 (by rw [flag4]; omega) (by omega)
  have flag6 := toNat_or_shiftLeft _ (bit e.sweepMark) 6 (by rw [flag5]; omega) (by omega)
  have flag7 := toNat_or_shiftLeft _ e.domain.code 7 (by rw [flag6]; omega) (by omega)
  unfold Entry.actionFlags
  omega

theorem extract_two_bits (x : Byte) (k v : Nat) (h : x.toNat / 2 ^ k % 4 = v % 4) :
    x.extractLsb' k 2 = BitVec.ofNat 2 v := by
  refine BitVec.eq_of_toNat_eq ?_
  rw [BitVec.extractLsb'_toNat, BitVec.toNat_ofNat, Nat.shiftRight_eq_div_pow]
  exact h

theorem getLsbD_eq_div (x : Byte) (k : Nat) : x.getLsbD k = decide (x.toNat / 2 ^ k % 2 = 1) := by
  rw [← BitVec.testBit_toNat, Nat.testBit_eq_decide_div_mod_eq]

theorem getLsbD_eq_of_bit (x : Byte) (k : Nat) (b : Bool)
    (h : x.toNat / 2 ^ k % 2 = (bit b).toNat) : x.getLsbD k = b := by
  rw [getLsbD_eq_div, h]
  cases b <;> rfl

theorem Domain.code_eq_one (d : Domain) : d.code.toNat = 1 ↔ d = .field := by cases d <;> decide

section
variable (e : Entry)

/-- The two actions of the action and flags byte (R160). -/
theorem Entry.actionFlags_actions :
    e.actionFlags.extractLsb' 0 2 = BitVec.ofNat 2 e.logged.code.toNat
      ∧ e.actionFlags.extractLsb' 2 2 = BitVec.ofNat 2 e.executed.code.toNat := by
  have whole := e.actionFlags_toNat
  have logged := e.logged.code_toNat_lt
  have executed := e.executed.code_toNat_lt
  exact ⟨extract_two_bits _ 0 _ (by omega), extract_two_bits _ 2 _ (by omega)⟩

/-- The four single bits of the action and flags byte (R160). -/
theorem Entry.actionFlags_bits :
    e.actionFlags.getLsbD 4 = e.escalated ∧ e.actionFlags.getLsbD 5 = e.latching
      ∧ e.actionFlags.getLsbD 6 = e.sweepMark
      ∧ (e.actionFlags.getLsbD 7 = true ↔ e.domain = .field) := by
  have whole := e.actionFlags_toNat
  have logged := e.logged.code_toNat_lt
  have executed := e.executed.code_toNat_lt
  have escalated := bit_toNat_lt e.escalated
  have latching := bit_toNat_lt e.latching
  have mark := bit_toNat_lt e.sweepMark
  have domain := e.domain.code_toNat_lt
  refine ⟨getLsbD_eq_of_bit _ 4 _ (by omega), getLsbD_eq_of_bit _ 5 _ (by omega),
    getLsbD_eq_of_bit _ 6 _ (by omega), ?_⟩
  rw [getLsbD_eq_div, decide_eq_true_eq, ← Domain.code_eq_one]
  omega

/-! ## The bytes of the view -/

/-- The view, byte by byte up to the detail (R159). -/
theorem Entry.view_eq (i : Nat) (gen : Byte) : e.view i gen =
    byte i :: gen :: byte (e.seq / 16777216) :: byte (e.seq / 65536) :: byte (e.seq / 256)
      :: byte e.seq :: e.key.path.station :: e.key.path.bay :: e.key.path.node
      :: e.key.path.channel :: e.key.group :: e.key.code :: e.state.code :: e.actionFlags
      :: e.origin.code :: byte (e.occ / 256) :: byte e.occ :: byte (e.first.toNat / 16777216)
      :: byte (e.first.toNat / 65536) :: byte (e.first.toNat / 256) :: byte e.first.toNat
      :: byte (e.last.toNat / 16777216) :: byte (e.last.toNat / 65536)
      :: byte (e.last.toNat / 256) :: byte e.last.toNat :: byte e.burstCount
      :: byte e.detail.length :: (e.detail ++ List.replicate 20 0).take 20 := rfl

/-- The detail bytes of the view, 0 beyond the detail (R159). -/
theorem Entry.view_detail (i : Nat) (gen : Byte) {k : Nat} (hk : k < 20) :
    (e.view i gen).getD (27 + k) 0 = e.detail.getD k 0 := by
  obtain ⟨fields, length, view⟩ : ∃ fields : List Byte, fields.length = 27
      ∧ e.view i gen = fields ++ (e.detail ++ List.replicate 20 0).take 20 := ⟨_, rfl, rfl⟩
  rw [view, List.getD_append_right _ _ _ _ (by omega), length, Nat.add_sub_cancel_left,
    List.getD_eq_getElem?_getD, List.getElem?_take_of_lt hk, ← List.getD_eq_getElem?_getD]
  rcases Nat.lt_or_ge k e.detail.length with inside | beyond
  · exact List.getD_append _ _ _ _ inside
  · rw [List.getD_append_right _ _ _ _ beyond, List.getD_eq_default _ _ beyond,
      List.getD_eq_getElem?_getD]
    exact List.getElem?_getD_replicate_default_eq _ _ _

theorem Entry.view_length (i : Nat) (gen : Byte) : (e.view i gen).length = 47 := by
  have detail : ((e.detail ++ List.replicate 20 (0 : Byte)).take 20).length = 20 := by simp
  simp only [Entry.view_eq, List.length_cons, detail]

end

/-! ## GET -/

theorem exec_get (s : State) (h : s.takes) (hg : s.grantsWindow) :
    exec (.get .free) s = .next (workGet (s.atGrant 0x41)) :=
  congrArg _ (giveRequest_free _ _ s h hg)

section
variable (u : State)

theorem workGet_outside (h : 127 < (u.window.argAt 0).toNat) : workGet u = complete 0x02 [] u :=
  if_pos h

theorem workGet_stale (h : (u.window.argAt 0).toNat < 128)
    (stale : handleEntry u.engine.slots (u.window.argAt 0) (u.window.argAt 1) = none) :
    workGet u = complete 0x05 [] u := by
  unfold workGet
  rw [if_neg (by omega), stale]
  rfl

theorem workGet_found (i : Fin 128) (e : Entry) (h : (u.window.argAt 0).toNat < 128)
    (found : handleEntry u.engine.slots (u.window.argAt 0) (u.window.argAt 1) = some (i, e)) :
    workGet u = complete 0x00 (e.view i.val (u.window.argAt 1)) u := by
  unfold workGet
  rw [if_neg (by omega), found]
  rfl

end

/-- Settles O22: by the handle match of R6, and the view field by field. -/
theorem getAnswers : Obligations.GetAnswers := by
  unfold Obligations.GetAnswers
  constructor
  · intro s h hg
    rw [exec_get s h hg]
    refine ⟨fun outside => ?_, fun i hi => ⟨fun e found => ?_, fun stale => ?_⟩⟩
    · rw [workGet_outside (s.atGrant 0x41) outside, complete_atGrant]
    · rw [workGet_found (s.atGrant 0x41) i e (Nat.lt_of_le_of_lt (Nat.le_of_eq hi.symm) i.isLt)
        (handleEntry_of_slot _ _ _ i e hi found), complete_atGrant]
      rfl
    · rw [workGet_stale (s.atGrant 0x41) (Nat.lt_of_le_of_lt (Nat.le_of_eq hi.symm) i.isLt)
        (handleEntry_none_of_slot _ _ _ i hi stale), complete_atGrant]
  · rintro i gen e v rfl
    obtain ⟨logged, executed⟩ := e.actionFlags_actions
    obtain ⟨escalated, latching, mark, domain⟩ := e.actionFlags_bits
    refine ⟨e.view_length i gen, ?_⟩
    simp only [Entry.view_eq, List.getD_cons_zero, List.getD_cons_succ, true_and]
    refine ⟨rfl, be32_spells e.seq, ?_, logged.trans ?_, executed.trans ?_,
      escalated, latching, mark, domain, ?_, be16_spells e.occ, ?_, ?_, rfl, rfl,
      fun k hk => e.view_detail i gen hk⟩
    · cases e.state <;> rfl
    · cases e.logged <;> rfl
    · cases e.executed <;> rfl
    · cases e.origin <;> rfl
    · exact (be32_spells e.first.toNat).trans (BitVec.ofNat_toNat 32 e.first)
    · exact (be32_spells e.last.toNat).trans (BitVec.ofNat_toNat 32 e.last)

/-! ## AGENT-INFO -/

section
variable {roster : List Agent} {a : Byte}

/-- In a roster in ascending order the first address above a is the lowest one (R109, R170). -/
theorem nextAddress_least
    (ascending : roster.Pairwise (fun x y => x.address.toNat < y.address.toNat))
    {x : Agent} (member : x ∈ roster) (above : a.toNat < x.address.toNat)
    (least : ∀ y ∈ roster, a.toNat < y.address.toNat → x.address.toNat ≤ y.address.toNat) :
    nextAddress roster a = x.address := by
  unfold nextAddress
  cases found : roster.find? fun y => decide (a.toNat < y.address.toNat) with
  | none => exact absurd (decide_eq_true above) (List.find?_eq_none.mp found x member)
  | some y =>
    obtain ⟨first, before, after, rfl, below⟩ := List.find?_eq_some_iff_append.mp found
    have le := least y (by simp) (of_decide_eq_true first)
    obtain ⟨_, tail, _⟩ := List.pairwise_append.mp ascending
    rcases List.mem_append.mp member with earlier | later
    · exact absurd above (by simpa using below x earlier)
    · rcases List.mem_cons.mp later with rfl | later
      · rfl
      · exact absurd (List.rel_of_pairwise_cons tail later) (Nat.not_lt.mpr le)

theorem nextAddress_none (h : ∀ y ∈ roster, y.address.toNat ≤ a.toNat) :
    nextAddress roster a = 0 := by
  have missing : roster.find? (fun y => decide (a.toNat < y.address.toNat)) = none :=
    List.find?_eq_none.mpr fun y hy => by simpa using h y hy
  unfold nextAddress
  rw [missing]

end

theorem exec_agentInfo (s : State) (h : s.takes) :
    exec .agentInfo s = .next (workAgentInfo (s.taken 0x45)) :=
  congrArg Host.Outcome.next (giveCommand_takes 0x45 workAgentInfo s h)

section
variable (u : State)

theorem workAgentInfo_outside (h : 62 < (u.window.argAt 0).toNat) :
    workAgentInfo u = complete 0x02 [] u := if_pos h

theorem workAgentInfo_unknown (h : (u.window.argAt 0).toNat ≤ 62)
    (unknown : findAgent u.link.roster (u.window.argAt 0) = none) :
    workAgentInfo u = complete 0x06
      [byte u.link.roster.length, nextAddress u.link.roster (u.window.argAt 0)] u := by
  unfold workAgentInfo
  dsimp only
  rw [if_neg (Nat.not_lt.mpr h), unknown]
  rfl

theorem workAgentInfo_found {x : Agent} (h : (u.window.argAt 0).toNat ≤ 62)
    (found : findAgent u.link.roster (u.window.argAt 0) = some x) :
    workAgentInfo u = complete 0x00
      ([byte u.link.roster.length, nextAddress u.link.roster (u.window.argAt 0)]
        ++ x.info (homePath u (u.window.argAt 0))) u := by
  unfold workAgentInfo
  dsimp only
  rw [if_neg (Nat.not_lt.mpr h), found]
  rfl

end

/-- Settles O25: the next address is the first above the one asked for, in ascending order. -/
theorem agentInfoAnswers : Obligations.AgentInfoAnswers := by
  unfold Obligations.AgentInfoAnswers
  rintro s a next takes rfl ascending hnext
  obtain rfl : nextAddress s.link.roster (s.arguments.argAt 0) = next := by
    rcases hnext with ⟨x, member, rfl, above, least⟩ | ⟨rfl, none⟩
    · exact nextAddress_least ascending member above least
    · exact nextAddress_none none
  rw [exec_agentInfo s takes]
  refine ⟨fun outside => ?_, fun inside => ⟨fun unknown => ?_, fun x found => ?_⟩⟩
  · rw [workAgentInfo_outside (s.taken 0x45) outside, complete_taken]
  · rw [workAgentInfo_unknown (s.taken 0x45) inside unknown, complete_taken]
    rfl
  · rw [workAgentInfo_found (s.taken 0x45) inside found, complete_taken]
    rfl

end Sys2Proof.Machine

/-!
The cursors: opening one, its filter, its walk in ascending sequence, and its closing (R162 to
R168).
-/

namespace Sys2Proof.Machine

/-! ## LIST-OPEN -/

/-- Every field of the argument of LIST-OPEN lies in its range (R163). -/
def Window.listOpenInRange (w : Window) : Prop :=
  (w.argAt 0).toNat ≤ 3 ∧ 1 ≤ (w.argAt 1).toNat ∧ (w.argAt 1).toNat ≤ 3 ∧ 1 ≤ (w.argAt 2).toNat
    ∧ (w.argAt 2).toNat ≤ 7 ∧ (w.argAt 3).toNat ≤ 2
    ∧ (w.argAt 4 = 0 ∨ (w.argAt 4 = 1 ∧ (w.argPath 5).wellFormed = true))

theorem Action.ofByte_isSome (b : Byte) : (Action.ofByte b).isSome = true ↔ b.toNat ≤ 2 := by
  constructor
  · intro h
    obtain ⟨m, hm⟩ := Option.isSome_iff_exists.mp h
    have lt := m.code_toNat_lt
    rw [(Action.ofByte_eq_some b m).mp hm]
    omega
  · intro h
    have values : b = 0 ∨ b = 1 ∨ b = 2 := by bv_omega
    rcases values with rfl | rfl | rfl <;> rfl

section
variable {w : Window}

theorem Window.subtreeArgument_inRange
    (h : w.argAt 4 = 0 ∨ (w.argAt 4 = 1 ∧ (w.argPath 5).wellFormed = true)) :
    w.subtreeArgument = some (if w.argAt 4 = 0 then none else some (w.argPath 5)) := by
  unfold Window.subtreeArgument
  split
  · rfl
  · next flag => rw [if_pos (h.resolve_left flag)]

theorem Window.inRange_of_subtreeArgument {t : Option LocPath} (h : w.subtreeArgument = some t) :
    w.argAt 4 = 0 ∨ (w.argAt 4 = 1 ∧ (w.argPath 5).wellFormed = true) := by
  unfold Window.subtreeArgument at h
  split at h
  · next flag => exact .inl flag
  · split at h
    · next given => exact .inr given
    · cases h

/-- The cursor that an argument in range opens (R164). -/
theorem openedCursor_inRange (h : w.listOpenInRange) (seqNext : Nat) :
    ∃ c, openedCursor w seqNext = some c ∧ c.state = .opened ∧ c.domainMask = w.argAt 1
      ∧ c.stateMask = w.argAt 2 ∧ c.minimum.code = w.argAt 3
      ∧ c.subtree = (if w.argAt 4 = 0 then none else some (w.argPath 5))
      ∧ c.bound = seqNext - 1 ∧ c.last = 0 := by
  obtain ⟨number, domainLow, domainHigh, stateLow, stateHigh, minimum, subtree⟩ := h
  obtain ⟨m, hm⟩ := Option.isSome_iff_exists.mp ((Action.ofByte_isSome _).mpr minimum)
  have opens : openedCursor w seqNext = some
      ⟨.opened, w.argAt 1, w.argAt 2, m, if w.argAt 4 = 0 then none else some (w.argPath 5),
        seqNext - 1, 0⟩ := by
    unfold openedCursor
    rw [hm, Window.subtreeArgument_inRange subtree]
    exact if_pos ⟨number, domainLow, domainHigh, stateLow, stateHigh⟩
  exact ⟨_, opens, rfl, rfl, rfl, ((Action.ofByte_eq_some _ m).mp hm).symm, rfl, rfl, rfl⟩

/-- An argument that opens a cursor lies in range (R163). -/
theorem inRange_of_openedCursor {seqNext : Nat} {c : Cursor} (h : openedCursor w seqNext = some c) :
    w.listOpenInRange := by
  unfold openedCursor at h
  obtain ⟨m, hm, h⟩ := Option.bind_eq_some_iff.mp h
  obtain ⟨t, ht, h⟩ := Option.bind_eq_some_iff.mp h
  split at h
  · next masks =>
    obtain ⟨number, domainLow, domainHigh, stateLow, stateHigh⟩ := masks
    exact ⟨number, domainLow, domainHigh, stateLow, stateHigh,
      (Action.ofByte_isSome _).mp (Option.isSome_iff_exists.mpr ⟨m, hm⟩),
      Window.inRange_of_subtreeArgument ht⟩
  · cases h

end

theorem exec_listOpen (s : State) (h : s.takes) (hg : s.grantsWindow) :
    exec (.listOpen .free) s = .next (workListOpen (s.atGrant 0x42)) :=
  congrArg _ (giveRequest_free _ _ s h hg)

theorem workListOpen_refused (u : State)
    (refused : openedCursor u.window u.engine.seqNext = none) :
    workListOpen u = complete 0x02 [] u := by
  unfold workListOpen
  rw [refused]
  rfl

theorem workListOpen_opens (u : State) {c : Cursor}
    (opens : openedCursor u.window u.engine.seqNext = some c) :
    workListOpen u = complete 0x00 (openResponse (u.window.argAt 0) c u.engine.slots)
      (setCursor (u.window.argAt 0) c u) := by
  unfold workListOpen
  rw [opens]
  rfl

/-- A granted request that replaces a cursor and completes (R155). -/
theorem complete_setCursor_atGrant (s : State) (code result : Byte) (response : List Byte)
    (n : Byte) (c : Cursor) : complete result response (setCursor n c (s.atGrant code))
      = setCursor n c (s.answered code result response) := rfl

/-- Settles O23: the cursor opens where the argument lies in its ranges, and only there. -/
theorem listOpenAnswers : Obligations.ListOpenAnswers := by
  unfold Obligations.ListOpenAnswers
  rintro s a ranges takes grants rfl hranges
  obtain rfl : ranges = s.arguments.listOpenInRange := propext hranges
  rw [exec_listOpen s takes grants]
  refine ⟨fun outside => ?_, fun inside => ?_⟩
  · have refused : openedCursor s.arguments s.engine.seqNext = none :=
      Option.eq_none_iff_forall_ne_some.mpr fun c h => outside (inRange_of_openedCursor h)
    rw [workListOpen_refused (s.atGrant 0x42) refused, complete_atGrant]
  · obtain ⟨c, opens, state, domains, states, minimum, subtree, bound, last⟩ :=
      openedCursor_inRange inside s.engine.seqNext
    refine ⟨c, state, domains, states, minimum, subtree, bound, last, ?_⟩
    rw [workListOpen_opens (s.atGrant 0x42) opens, complete_setCursor_atGrant]
    rfl

/-! ## The filter -/

/-- A byte meets a mask of one bit where it has that bit. -/
theorem and_twoPow_ne_zero (x : Byte) {k : Nat} (hk : k < 8) :
    (x &&& BitVec.twoPow 8 k) != 0 ↔ x.getLsbD k = true := by
  have place : BitVec.twoPow 8 k ≠ 0 := fun zero => by
    have bit := congrArg (fun y : Byte => y.getLsbD k) zero
    simp [hk] at bit
  rw [bne_iff_ne, BitVec.and_twoPow]
  cases x.getLsbD k with
  | false => simp
  | true => simpa using place

theorem Action.minimum_le_iff (minimum executed : Action) : minimum.rank ≤ executed.rank ↔
    minimum = .notice ∨ executed = .fatal ∨ (minimum = .diagnostic ∧ executed = .diagnostic) := by
  cases minimum <;> cases executed <;> decide

theorem Domain.mask_iff (x : Byte) (d : Domain) : (x &&& d.maskBit) != 0
    ↔ x.getLsbD (match d with | .unit => 0 | .field => 1) = true := by
  cases d with
  | unit => exact and_twoPow_ne_zero x (k := 0) (by decide)
  | field => exact and_twoPow_ne_zero x (k := 1) (by decide)

theorem EntryState.mask_iff (x : Byte) (st : EntryState) : (x &&& st.maskBit) != 0
    ↔ x.getLsbD (match st with | .activeUnack => 0 | .activeAck => 1 | .clearedUnack => 2)
      = true := by
  cases st with
  | activeUnack => exact and_twoPow_ne_zero x (k := 0) (by decide)
  | activeAck => exact and_twoPow_ne_zero x (k := 1) (by decide)
  | clearedUnack => exact and_twoPow_ne_zero x (k := 2) (by decide)

/-- The filter of a cursor, part by part (R165). -/
theorem Cursor.matches_iff (c : Cursor) (e : Entry) : c.matches e = true ↔
    (c.domainMask &&& e.domain.maskBit) != 0 ∧ (c.stateMask &&& e.state.maskBit) != 0
      ∧ c.minimum.rank ≤ e.executed.rank
      ∧ ∀ q, c.subtree = some q → q.covers e.key.path = true := by
  unfold Cursor.matches
  cases c.subtree with
  | none => simp [and_assoc]
  | some q => simp [and_assoc]

theorem Cursor.ahead_iff (c : Cursor) (e : Entry) :
    c.ahead e = true ↔ c.matches e = true ∧ c.last < e.seq ∧ e.seq ≤ c.bound := by
  unfold Cursor.ahead
  simp only [Bool.and_eq_true, decide_eq_true_eq, and_assoc]

/-! ## LIST-CLOSE -/

theorem exec_listClose (s : State) (h : s.takes) (hg : s.grantsWindow) :
    exec (.listClose .free) s = .next (workListClose (s.atGrant 0x44)) :=
  congrArg _ (giveRequest_free _ _ s h hg)

section
variable (u : State)

theorem workListClose_outside (h : 3 < (u.window.argAt 0).toNat) :
    workListClose u = complete 0x02 [] u := if_pos h

theorem workListClose_inside (h : (u.window.argAt 0).toNat ≤ 3) :
    workListClose u = complete 0x00 [u.window.argAt 0]
      (setCursor (u.window.argAt 0) Cursor.closed u) := if_neg (Nat.not_lt.mpr h)

/-! ## LIST-NEXT -/

theorem workListNext_outside (h : 3 < (u.window.argAt 0).toNat) :
    workListNext u = complete 0x02 [] u := if_pos h

variable (inside : (u.window.argAt 0).toNat ≤ 3)
include inside

theorem workListNext_closed
    (closed : (cursorAt u.engine.cursors (u.window.argAt 0)).state = .closed) :
    workListNext u = complete 0x14 [] u := by
  unfold workListNext
  dsimp only
  rw [if_neg (Nat.not_lt.mpr inside), closed]
  rfl

theorem workListNext_exhausted
    (exhausted : (cursorAt u.engine.cursors (u.window.argAt 0)).state = .exhausted) :
    workListNext u = complete 0x13 [] u := by
  unfold workListNext
  dsimp only
  rw [if_neg (Nat.not_lt.mpr inside), exhausted]
  rfl

theorem workListNext_opened
    (opened : (cursorAt u.engine.cursors (u.window.argAt 0)).state = .opened) :
    workListNext u
      = nextMatch (u.window.argAt 0) (cursorAt u.engine.cursors (u.window.argAt 0)) u := by
  unfold workListNext
  dsimp only
  rw [if_neg (Nat.not_lt.mpr inside), opened]

end

theorem exec_listNext (s : State) (h : s.takes) (hg : s.grantsWindow) :
    exec (.listNext .free) s = .next (workListNext (s.atGrant 0x43)) :=
  congrArg _ (giveRequest_free _ _ s h hg)

section
variable (n : Byte) (c : Cursor) (u : State)

/-- The match of lowest sequence is returned, and the last moves to its sequence (R166). -/
theorem nextMatch_least (i : Fin 128) (e : Entry) (he : u.engine.slots[i].entry = some e)
    (ahead : c.ahead e = true)
    (least : ∀ (j : Fin 128) (f : Entry), u.engine.slots[j].entry = some f → c.ahead f = true →
      j ≠ i → e.seq < f.seq) :
    nextMatch n c u = complete 0x00 (e.view i.val u.engine.slots[i].gen)
      (setCursor n { c with last := e.seq } u) := by
  obtain ⟨seq, found⟩ := oldest_of_least u.engine.slots (fun _ f => c.ahead f) indices i e
    (mem_indices i) he ahead least
  obtain ⟨_, f, hf, _, rfl⟩ := oldest_some _ _ _ _ _ found
  obtain rfl : e = f := Option.some.inj (he.symm.trans hf)
  unfold nextMatch
  rw [found]
  dsimp only
  rw [he]
  rfl

theorem nextMatch_end
    (none_ahead : ∀ (i : Fin 128) (e : Entry), u.engine.slots[i].entry = some e →
      c.ahead e = false) :
    nextMatch n c u = complete 0x13 [] (setCursor n { c with state := .exhausted } u) := by
  unfold nextMatch
  rw [oldest_eq_none u.engine.slots (fun _ e => c.ahead e) indices none_ahead]
  rfl

end

/-- Settles O24: LIST-NEXT by the cursor's state, where OPEN takes the oldest entry ahead of it. -/
theorem listNextAndCloseAnswer : Obligations.ListNextAndCloseAnswer := by
  unfold Obligations.ListNextAndCloseAnswer
  refine ⟨fun c e => ?_, ?_, ?_⟩
  · exact (Cursor.matches_iff c e).trans (and_congr (Domain.mask_iff _ _) (and_congr
      (EntryState.mask_iff _ _) (and_congr (Action.minimum_le_iff _ _)
        (forall₂_congr fun q _ => LocPath.covers_iff q _))))
  · rintro s n takes grants rfl
    rw [exec_listClose s takes grants]
    refine ⟨fun outside => ?_, fun inside => ?_⟩
    · rw [workListClose_outside (s.atGrant 0x44) outside, complete_atGrant]
    · rw [workListClose_inside (s.atGrant 0x44) inside, complete_setCursor_atGrant]
      rfl
  · rintro s n c takes grants rfl rfl ahead hahead
    have ahead_iff : ∀ e, ahead e
        ↔ (cursorAt s.engine.cursors (s.arguments.argAt 0)).ahead e = true := fun e =>
      (hahead e).trans (Cursor.ahead_iff _ e).symm
    rw [exec_listNext s takes grants]
    refine ⟨fun outside => ?_, fun inside =>
      ⟨fun closed => ?_, fun exhausted => ?_, fun opened => ?_⟩⟩
    · rw [workListNext_outside (s.atGrant 0x43) outside, complete_atGrant]
    · rw [workListNext_closed (s.atGrant 0x43) inside closed, complete_atGrant]
    · rw [workListNext_exhausted (s.atGrant 0x43) inside exhausted, complete_atGrant]
    · have walk : workListNext (s.atGrant 0x43) = nextMatch (s.arguments.argAt 0)
          (cursorAt s.engine.cursors (s.arguments.argAt 0)) (s.atGrant 0x43) :=
        workListNext_opened (s.atGrant 0x43) inside opened
      rw [walk]
      refine ⟨fun i e he first least => ?_, fun none_ahead => ?_⟩
      · rw [nextMatch_least _ _ (s.atGrant 0x43) i e he ((ahead_iff e).mp first) fun j f hf next =>
          least j f hf ((ahead_iff f).mpr next), complete_setCursor_atGrant]
        rfl
      · rw [nextMatch_end _ _ (s.atGrant 0x43) fun i e he => Bool.eq_false_iff.mpr fun next =>
          none_ahead i e he ((ahead_iff e).mpr next), complete_setCursor_atGrant]

end Sys2Proof.Machine

/-!
Sweep marks stand only inside a CLEAR-DOMAIN, on entries that are not latching, at indices that the
sweep has not reached (R176 to R179): the work of a request sets no mark, and only the start of a
sweep and its steps move the index that it comes to next.
-/

namespace Sys2Proof.Machine

/-! ## Marks from an index on -/

/-- The marked entries are not latching (R176), and stand at a given index or above (R178). -/
def MarkedFrom (low : Nat) (slots : Vector Slot 128) : Prop :=
  ∀ (i : Fin 128) (e : Entry), slots[i].entry = some e → e.sweepMark = true →
    e.latching = false ∧ low ≤ i.val

/-- The law of the sweep, by its next step where one runs: outside a sweep every index is behind
it. -/
def SweepLawAt (next : Option Nat) (slots : Vector Slot 128) : Prop :=
  match next with
  | none => MarkedFrom 128 slots
  | some k => k < 16 ∧ MarkedFrom (8 * k) slots

/-- The next step of the sweep, if one runs. -/
def State.sweepNext (s : State) : Option Nat := s.engine.sweep.map (·.next)

/-- No index is as high as 128, so from there on no entry is marked. -/
theorem markedFrom_end (slots : Vector Slot 128) : MarkedFrom 128 slots
    ↔ ∀ (i : Fin 128) (e : Entry), slots[i].entry = some e → e.sweepMark = false := by
  refine ⟨fun h i e he => Bool.eq_false_iff.mpr fun mark => ?_, fun h i e he mark => ?_⟩
  · exact absurd (h i e he mark).2 (Nat.not_le.mpr i.isLt)
  · exact absurd (h i e he) (by rw [mark]; decide)

theorem markedFrom_of_unmarked {slots : Vector Slot 128} (low : Nat)
    (h : ∀ (i : Fin 128) (e : Entry), slots[i].entry = some e → e.sweepMark = false) :
    MarkedFrom low slots := fun i e he mark => absurd (h i e he) (by rw [mark]; decide)

theorem sweepLaw_iff (s : State) : SweepLaw s ↔ SweepLawAt s.sweepNext s.engine.slots := by
  unfold SweepLaw State.sweepNext
  cases s.engine.sweep with
  | none => exact (markedFrom_end s.engine.slots).symm
  | some sw => exact .rfl

/-- The law is kept where the sweep stands where it stood and no mark is set. -/
theorem SweepLawAt.of_marked {next : Option Nat} {slots slots' : Vector Slot 128}
    (h : SweepLawAt next slots) (marked : ∀ low, MarkedFrom low slots → MarkedFrom low slots') :
    SweepLawAt next slots' := by
  cases next with
  | none => exact marked _ h
  | some k => exact ⟨h.1, marked _ h.2⟩

/-! ## No work of a request sets a mark -/

/-- An entry marked after an ease was marked before it, and is latching as it was. -/
theorem Work.Ease.marked_before {w w' : Work} (h : Work.Ease w w') (j : Fin 128) (f : Entry)
    (hf : w'.entry j = some f) (mark : f.sweepMark = true) :
    ∃ e, w.entry j = some e ∧ e.sweepMark = true ∧ f.latching = e.latching := by
  cases h with
  | update i e e' events found key seq anchor domain logged latching executed kept =>
    have hf' : (w.put i e').entry j = some f := hf
    rw [Work.entry_put] at hf'
    split at hf'
    · next hij =>
      cases hij
      cases hf'
      exact ⟨e, found, kept mark, latching⟩
    · exact ⟨f, hf', mark, rfl⟩
  | retire i e found =>
    rw [Work.entry_retireEntry] at hf
    split at hf
    · cases hf
    · exact ⟨f, hf, mark, rfl⟩

theorem Work.Change.marked_before {w w' : Work} (h : Work.Change w w') (j : Fin 128) (f : Entry)
    (hf : w'.entry j = some f) (mark : f.sweepMark = true) :
    ∃ e, w.entry j = some e ∧ e.sweepMark = true ∧ f.latching = e.latching := by
  cases h with
  | ease w' h => exact h.marked_before j f hf mark
  | create i e events free fresh seq counter anchor domain executed unmarked =>
    have hf' : (w.put i e).entry j = some f := hf
    rw [Work.entry_put] at hf'
    split at hf'
    · cases hf'
      exact absurd (unmarked.symm.trans mark) (by decide)
    · exact ⟨f, hf', mark, rfl⟩
  | flags => exact ⟨f, hf, mark, rfl⟩
  | mark => exact ⟨f, hf, mark, rfl⟩
  | presence => exact ⟨f, hf, mark, rfl⟩

theorem Work.markedFrom_of_changes {w w' : Work} (h : Work.Changes w w') (low : Nat)
    (hw : MarkedFrom low w.slots) : MarkedFrom low w'.slots := by
  induction h with
  | refl => exact hw
  | tail _ h ih =>
    intro i f hf mark
    obtain ⟨e, he, marked, latching⟩ := h.marked_before i f hf mark
    rw [latching]
    exact ih i e he marked

/-- An entry that is not marked gets no mark by eases. -/
theorem Work.unmarked_of_eases {w w' : Work} (h : Work.Eases w w') (i : Fin 128)
    (hw : ∀ e, w.entry i = some e → e.sweepMark = false) (f : Entry)
    (hf : w'.entry i = some f) : f.sweepMark = false := by
  induction h generalizing f with
  | refl => exact hw f hf
  | tail _ h ih =>
    refine Bool.eq_false_iff.mpr fun mark => ?_
    obtain ⟨e, he, marked, _⟩ := h.marked_before i f hf mark
    exact absurd (ih e he) (by rw [marked]; decide)

/-! ## A step of the sweep -/

/-- The visit of an index leaves no mark at it (R177). -/
theorem Work.sweepVisit_unmarked (w : Work) (i : Fin 128) (e : Entry)
    (he : (w.sweepVisit i).entry i = some e) : e.sweepMark = false := by
  unfold Work.sweepVisit at he
  split at he
  · next f hf =>
    split at he
    · rw [Work.entry_retire] at he
      cases he
    · next unmarked =>
      rw [hf] at he
      cases he
      exact Bool.eq_false_iff.mpr unmarked
  · next free =>
    rw [free] at he
    cases he

/-- A visited index is left without a mark, whatever the later visits do. -/
theorem Work.sweepVisits_unmarked (visited : List (Fin 128)) (w : Work) (i : Fin 128)
    (hi : i ∈ visited) (e : Entry) (he : (visited.foldl Work.sweepVisit w).entry i = some e) :
    e.sweepMark = false := by
  induction visited generalizing w with
  | nil => cases hi
  | cons j rest ih =>
    rcases List.mem_cons.mp hi with rfl | later
    · exact Work.unmarked_of_eases (Work.sweepVisits_eases _ rest) i (w.sweepVisit_unmarked i) e he
    · exact ih (w.sweepVisit j) later he

/-- Step k leaves the marks above its indices alone (R177, R178). -/
theorem State.swept_markedFrom (s : State) (k : Nat) (h : MarkedFrom (8 * k) s.engine.slots) :
    MarkedFrom (8 * (k + 1)) (s.swept k).slots := by
  have kept := Work.markedFrom_of_changes (Work.changes_of_eases
    ((taking s).sweepVisits_eases (stepIndices k))) (8 * k) h
  intro i e he mark
  obtain ⟨latching, low⟩ := kept i e he mark
  refine ⟨latching, ?_⟩
  have unvisited : i.val / 8 ≠ k := fun place => by
    have unmarked := Work.sweepVisits_unmarked _ _ i ((mem_stepIndices k i).mpr place) e he
    exact absurd (unmarked.symm.trans mark) (by decide)
  omega

/-! ## The state -/

theorem SameCore.sweepLaw {s t : State} (h : SameCore s t) (hs : SweepLaw s) : SweepLaw t := by
  unfold SweepLaw
  rw [h.engine]
  exact hs

theorem SweepLaw.complete {s : State} (h : SweepLaw s) (result : Byte) (response : List Byte) :
    SweepLaw (complete result response s) := h

/-- The grant of a request uses the sweep's gap and moves nothing else of it (R15). -/
theorem SweepLaw.granted {s : State} (h : SweepLaw s) (src : Source) :
    SweepLaw (granted src s) := by
  have next : (Machine.granted src s).sweepNext = s.sweepNext := by
    unfold State.sweepNext Machine.granted
    rw [Option.map_map]
    rfl
  rw [sweepLaw_iff] at h ⊢
  rw [next]
  exact h

/-- The work of a request, handed off, sets no mark (R16). -/
theorem SweepLaw.handOff {s : State} (h : SweepLaw s) {w : Work}
    (changes : Work.Changes (taking s) w) : SweepLaw (handOff s w) :=
  (sweepLaw_iff _).mpr
    (((sweepLaw_iff s).mp h).of_marked fun low => Work.markedFrom_of_changes changes low)

theorem SweepLaw.eased {s : State} (h : SweepLaw s) {w : Work}
    (eases : Work.Eases (taking s) w) : SweepLaw (Machine.handOff s w) :=
  h.handOff (Work.changes_of_eases eases)

/-- Where no mark stands the law asks only that a sweep has a step to come. -/
theorem SweepLaw.of_unmarked {s t : State} (h : SweepLaw s) (next : t.sweepNext = s.sweepNext)
    (unmarked : ∀ (i : Fin 128) (e : Entry), t.engine.slots[i].entry = some e →
      e.sweepMark = false) : SweepLaw t := by
  rw [sweepLaw_iff] at h ⊢
  rw [next]
  exact h.of_marked fun low _ => markedFrom_of_unmarked low unmarked

theorem SweepLaw.ite {a b : State} {c : Prop} [Decidable c] (h : c → SweepLaw a)
    (h' : ¬ c → SweepLaw b) : SweepLaw (if c then a else b) := by
  split
  · next hc => exact h hc
  · next hc => exact h' hc

/-- The work of a command or a request keeps the law of the sweep; a creation looks at the reserved
indices (R5). -/
def KeepsSweep (work : State → State) : Prop := ∀ s, ReservedLaw s → SweepLaw s → SweepLaw (work s)

/-! ## Commands -/

theorem giveCommand_keepsSweep (code : Byte) {owner : State → State} (ho : KeepsSweep owner) :
    KeepsSweep (giveCommand code owner) := fun s hr hs =>
  .ite (fun _ => (csnRise_core s).sweepLaw hs) fun _ =>
    .ite (fun _ => ((csnRise_core s).trans (refuseOverrun_core _)).sweepLaw hs) fun _ =>
      ho (s.taken code) hr hs

theorem grantedWork_keepsSweep {work : State → State} (hw : KeepsSweep work) :
    KeepsSweep fun s => work { granted .window s with window.waiting := false } :=
  fun s hr hs => hw { granted .window s with window.waiting := false } hr (hs.granted .window)

theorem request_keepsSweep (code : Byte) (engine : EngineAt) {work : State → State}
    (hw : KeepsSweep work) : KeepsSweep (giveCommand code (presentRequest engine work)) :=
  giveCommand_keepsSweep code fun s hr hs =>
    .ite (fun _ => grantedWork_keepsSweep hw { s with window.waiting := true } hr hs) fun _ => hs

/-! ### The sweep -/

theorem Entry.markFor_latching (d : Domain) (bound : Nat) (e : Entry) :
    (e.markFor d bound).latching = e.latching := by
  unfold Entry.markFor
  split
  · rfl
  · rfl

/-- The start of a sweep marks no latching entry (R176). -/
theorem Entry.markFor_marked (d : Domain) (bound : Nat) (e : Entry)
    (mark : (e.markFor d bound).sweepMark = true) : e.latching = false ∨ e.sweepMark = true := by
  unfold Entry.markFor at mark
  split at mark
  · next takes =>
    unfold sweepTakes at takes
    simp only [Bool.and_eq_true, Bool.not_eq_true'] at takes
    exact .inl takes.1.2
  · exact .inr mark

theorem MarkedFrom.start {low : Nat} {slots : Vector Slot 128} (h : MarkedFrom low slots)
    (d : Domain) (bound : Nat) :
    MarkedFrom 0 (slots.map (Slot.relabel (Entry.markFor d bound))) := by
  intro i f hf mark
  obtain ⟨e, he, rfl⟩ := entry_relabel _ _ _ _ hf
  rw [Entry.markFor_latching]
  refine ⟨?_, Nat.zero_le _⟩
  rcases Entry.markFor_marked d bound e mark with latching | marked
  · exact latching
  · exact (h i e he marked).1

/-- Whichever sweep runs, its marked entries are not latching. -/
theorem SweepLaw.markedFrom {s : State} (h : SweepLaw s) :
    ∃ low, MarkedFrom low s.engine.slots := by
  rw [sweepLaw_iff] at h
  cases hn : s.sweepNext with
  | none =>
    rw [hn] at h
    exact ⟨_, h⟩
  | some k =>
    rw [hn] at h
    exact ⟨_, h.2⟩

theorem workSweepStart_keepsSweep : KeepsSweep workSweepStart := by
  intro s _ hs
  unfold workSweepStart
  split
  · exact hs
  · next d _ =>
    obtain ⟨low, marked⟩ := hs.markedFrom
    exact (sweepLaw_iff _).mpr ⟨Nat.zero_lt_succ _, marked.start d (s.engine.seqNext - 1)⟩

/-- The last step ends the sweep with no mark left; any other leaves the marks above it (R178,
R179). -/
theorem workSweepStep_sweepLaw {sw : Sweep} {s : State} (hs : SweepLaw s)
    (runs : s.engine.sweep = some sw) : SweepLaw (workSweepStep sw s) := by
  have next : s.sweepNext = some sw.next := by rw [State.sweepNext, runs]; rfl
  rw [sweepLaw_iff, next] at hs
  obtain ⟨bound, marked⟩ := hs
  have swept := s.swept_markedFrom sw.next marked
  rcases Nat.lt_or_ge sw.next 15 with small | large
  · rw [workSweepStep_on sw s small]
    exact (sweepLaw_iff _).mpr ⟨Nat.succ_lt_succ small, swept⟩
  · have width : 8 * (sw.next + 1) = 128 := by omega
    rw [width] at swept
    rw [workSweepStep_last sw s (by omega)]
    refine (sweepLaw_iff _).mpr ?_
    show MarkedFrom 128 (s.swept sw.next).slots
    exact swept

theorem workClearDomain_keepsSweep : KeepsSweep workClearDomain := by
  intro s _ hs
  unfold workClearDomain
  split
  · exact hs
  · exact hs

/-! ### Requests that ease, raise or restore -/

theorem workAck_keepsSweep : KeepsSweep workAck := fun s _ hs =>
  .ite (fun _ => hs) fun _ => by
    split
    · exact hs
    · next i e h =>
      obtain ⟨_, found, _⟩ := handleEntry_some _ _ _ _ _ h
      exact (hs.eased (Work.ackEntry_eases (taking s) i e found)).complete _ _

theorem workAckAll_keepsSweep : KeepsSweep workAckAll := fun _ _ hs =>
  .ite (fun _ => (hs.eased (ackAll_eases _ _)).complete _ _) fun _ => hs

theorem workRaiseApp_keepsSweep : KeepsSweep workRaiseApp := fun _ hr hs =>
  .ite (fun _ => (hs.handOff (Work.raise_changes _ _ hr)).complete _ _) fun _ => hs

theorem workRestoreApp_keepsSweep : KeepsSweep workRestoreApp := fun _ _ hs =>
  .ite (fun _ => (hs.eased (Work.restore_eases _ _)).complete _ _) fun _ => hs

/-- New limits are followed by a hysteresis check at most (R100). -/
theorem writeLimits_keepsSweep (l : Limits) : KeepsSweep (writeLimits l) := by
  intro s _ hs
  have eases : Work.Eases (taking { s with limits := l })
      (if l.reserve = s.limits.reserve then taking { s with limits := l }
        else (taking { s with limits := l }).hysteresisOf .field) := by
    split
    · exact .refl
    · exact Work.hysteresisOf_eases _ _
  exact SweepLaw.eased (s := { s with limits := l }) hs eases

theorem workSetLimits_keepsSweep : KeepsSweep workSetLimits := by
  intro s hr hs
  refine .ite (fun _ => ?_) fun _ => hs
  have expired := expireIfDue_core s
  have written := writeLimits_keepsSweep (limitsArgument s.window) (expireIfDue s)
    (reservedLaw_of_slots hr expired.sameTable.slots) (expired.sweepLaw hs)
  exact (expireIfDue_core _).sweepLaw (written.complete _ _)

/-- A commit clears the mark of every entry it keeps (R62). -/
theorem workTopoCommit_keepsSweep : KeepsSweep workTopoCommit := by
  intro s _ hs
  refine .ite (fun _ => hs) fun _ => .ite (fun _ => hs) fun _ => ?_
  rw [commitWork_eq, committed_eq]
  refine hs.of_unmarked rfl fun i e he => ?_
  obtain ⟨_, _, unmarked⟩ := (taking s).rooted_left i e he
  exact unmarked

/-- WARM-RESTART clears the mark of every entry it keeps (R29). -/
theorem workWarmRestart_keepsSweep : KeepsSweep workWarmRestart := by
  intro s _ hs
  have engine := warmRestarted_engine s (taking s).warmRestart
  rw [workWarmRestart_eq]
  refine hs.of_unmarked (by rw [State.sweepNext, engine]; rfl) fun i e he => ?_
  rw [engine] at he
  exact ((taking s).warmRestart_left i e he).2

/-! ### Reading, configuration and staging -/

theorem workLookup_keepsSweep : KeepsSweep workLookup := fun _ _ hs =>
  .ite (fun _ => hs) fun _ => hs

theorem workGet_keepsSweep : KeepsSweep workGet := fun s _ hs =>
  .ite (fun _ => hs) fun _ => by
    split
    · exact hs
    · exact hs

theorem workListOpen_keepsSweep : KeepsSweep workListOpen := by
  intro s _ hs
  unfold workListOpen
  split
  · exact hs
  · exact hs

theorem nextMatch_keepsSweep (n : Byte) (c : Cursor) : KeepsSweep (nextMatch n c) := by
  intro s _ hs
  unfold nextMatch
  split
  · split
    · exact hs
    · exact hs
  · exact hs

theorem workListNext_keepsSweep : KeepsSweep workListNext := fun s hr hs =>
  .ite (fun _ => hs) fun _ => by
    split
    · exact hs
    · exact nextMatch_keepsSweep _ _ s hr hs
    · exact hs

theorem workListClose_keepsSweep : KeepsSweep workListClose := fun _ _ hs =>
  .ite (fun _ => hs) fun _ => hs

theorem workAgentInfo_keepsSweep : KeepsSweep workAgentInfo := fun s _ hs =>
  .ite (fun _ => hs) fun _ => by
    split
    · exact hs
    · exact hs

theorem workGroupSet_keepsSweep : KeepsSweep workGroupSet := fun s _ hs =>
  .ite (fun _ => hs) fun _ => .ite (fun _ => hs) fun _ => by
    split
    · exact hs
    · exact .ite (fun _ => hs) fun _ => hs

theorem workSetStamp_keepsSweep : KeepsSweep workSetStamp := fun s _ hs =>
  (expireIfDue_core _).sweepLaw
    (((expireIfDue_core s).trans (clock_core _ _)).sweepLaw hs |>.complete _ _)

theorem workSetMode_keepsSweep : KeepsSweep workSetMode := fun _ _ hs =>
  .ite (fun _ => hs) fun _ => hs

theorem workGrant_keepsSweep : KeepsSweep workGrant := fun _ _ hs =>
  .ite (fun _ => hs) fun _ => hs

/-! ### The later grant -/

theorem windowWork_keepsSweep (code : Byte) : KeepsSweep (windowWork code) := by
  intro s hr hs
  unfold windowWork
  split
  · exact workTopoCommit_keepsSweep s hr hs
  · exact workSetLimits_keepsSweep s hr hs
  · exact workLookup_keepsSweep s hr hs
  · exact workGet_keepsSweep s hr hs
  · exact workListOpen_keepsSweep s hr hs
  · exact workListNext_keepsSweep s hr hs
  · exact workListClose_keepsSweep s hr hs
  · exact workAck_keepsSweep s hr hs
  · exact workAckAll_keepsSweep s hr hs
  · exact workSweepStart_keepsSweep s hr hs
  · exact workRaiseApp_keepsSweep s hr hs
  · exact workRestoreApp_keepsSweep s hr hs
  · exact workWarmRestart_keepsSweep s hr hs
  · exact hs

/-! ## The requests of the link and of the verify timer -/

theorem answerWith_keepsSweep (r : Report) (refusal : State → Option Verdict)
    {work : Work → Work × Verdict} (changes : ∀ w, w.Reserved → Work.Changes w (work w).1) :
    KeepsSweep fun s => answerWith s r (refusal s) work := by
  intro s hr hs
  show SweepLaw (answerWith s r (refusal s) work)
  unfold answerWith
  split
  · exact (answerReport_core r _ s).sweepLaw hs
  · exact (answerReport_core r _ _).sweepLaw (hs.handOff (changes _ hr))

theorem reportStep_keepsSweep (kind : Byte) {work : Report → State → State}
    (hw : ∀ r, KeepsSweep (work r)) : KeepsSweep (reportStep kind work) := by
  intro s hr hs
  unfold reportStep
  split
  · exact .ite (fun _ => hw _ (granted .link s) hr (hs.granted .link)) fun _ => hs
  · exact hs
  · exact hs

theorem grantedPart_keepsSweep (a : Byte) (linkCode : Option Byte) (lapse : Bool) :
    KeepsSweep fun s => workPart a linkCode lapse (granted .link s) := fun _ hr hs =>
  (dequeue_core a _).sweepLaw ((hs.granted .link).handOff (Work.partWork_changes _ _ _ _ _ hr))

theorem workVerifyExpiry_keepsSweep : KeepsSweep workVerifyExpiry := fun _ hr hs =>
  hs.handOff (Work.raiseSilent_changes _ _ hr)

/-! ## Every row -/

theorem sampleReset_sweepLaw {s : State} (hs : SweepLaw s) : SweepLaw (sampleReset s) :=
  .ite (fun _ => hs) fun _ => .ite (fun _ => sweepLaw_reset) fun _ =>
    .ite (fun _ => hs) fun _ => hs

theorem sampleInputs_sweepLaw {s : State} (hs : SweepLaw s) (low power clk : Bool) (p : Port) :
    SweepLaw (sampleReset
      { s with resetnLow := low, poweringUp := power, clkPresent := clk, port := p }) :=
  sampleReset_sweepLaw ((inputs_core s low power clk p).sweepLaw hs)

/-- A row answers a next state that meets the law of the sweep. -/
def AnswersSweepLaw (o : Host.Outcome State Fault Refusal) : Prop := ∃ t, o = .next t ∧ SweepLaw t

section
variable {s : State}

/-- A row that moves nothing of the engine keeps the law. -/
theorem answersSweepLaw_of_core {t : State} (h : SameCore s t) (hs : SweepLaw s) :
    AnswersSweepLaw (.next t) := ⟨t, rfl, h.sweepLaw hs⟩

theorem answersSweepLaw_if {t : State} {c : Prop} [Decidable c] (hs : SweepLaw s)
    (h : c → SweepLaw t) : AnswersSweepLaw (.next (if c then t else s)) :=
  ⟨_, rfl, .ite h fun _ => hs⟩

theorem answersSweepLaw_of_command (code : Byte) {owner : State → State} (ho : KeepsSweep owner)
    (hr : ReservedLaw s) (hs : SweepLaw s) : AnswersSweepLaw (.next (giveCommand code owner s)) :=
  ⟨_, rfl, giveCommand_keepsSweep code ho s hr hs⟩

theorem answersSweepLaw_of_request (code : Byte) (engine : EngineAt) {work : State → State}
    (hw : KeepsSweep work) (hr : ReservedLaw s) (hs : SweepLaw s) :
    AnswersSweepLaw (.next (giveCommand code (presentRequest engine work) s)) :=
  ⟨_, rfl, request_keepsSweep code engine hw s hr hs⟩

theorem answersSweepLaw_of_report (kind : Byte) (refusal : State → Report → Option Verdict)
    {work : Report → Work → Work × Verdict}
    (changes : ∀ r w, w.Reserved → Work.Changes w (work r w).1) (hr : ReservedLaw s)
    (hs : SweepLaw s) : AnswersSweepLaw (.next
      (reportStep kind (fun r u => answerWith u r (refusal u r) (work r)) s)) :=
  ⟨_, rfl, reportStep_keepsSweep kind
    (fun r => answerWith_keepsSweep r (refusal · r) (changes r)) s hr hs⟩

theorem execSweepStep_sweepLaw (hs : SweepLaw s) : AnswersSweepLaw (execSweepStep s) := by
  refine ⟨_, rfl, ?_⟩
  split
  · exact hs
  · next sw runs => exact .ite (fun _ => workSweepStep_sweepLaw hs runs) fun _ => hs

theorem execWarmRestartComplete_sweepLaw (part : RestartEnd) (hs : SweepLaw s) :
    AnswersSweepLaw (execWarmRestartComplete part s) := by
  refine ⟨_, rfl, ?_⟩
  split
  · exact .ite (fun _ => hs) fun _ => hs
  · have cleared (r : Restart) : SweepLaw (if r.cleared then s else clearCauses r s) :=
      .ite (fun _ => hs) fun _ => hs
    exact cleared _
  · exact hs

theorem execReplyJudge_sweepLaw (stop : Bool) (bytes : List Byte) (hs : SweepLaw s) :
    AnswersSweepLaw (execReplyJudge stop bytes s) := by
  refine answersSweepLaw_if hs fun _ => ?_
  split
  · exact (discardBytes_core bytes s).sweepLaw hs
  · exact .ite (fun _ => (discardBytes_core bytes s).sweepLaw hs) fun _ =>
      (workReplyJudge_core _ stop bytes s).sweepLaw hs

theorem execReplyWindowClose_sweepLaw (hs : SweepLaw s) :
    AnswersSweepLaw (execReplyWindowClose s) := by
  refine ⟨_, rfl, ?_⟩
  split
  · exact hs
  · exact .ite (fun _ => (workReplyWindowClose_core _ s).sweepLaw hs) fun _ => hs

theorem execPoll_sweepLaw (hs : SweepLaw s) : AnswersSweepLaw (execPoll s) :=
  answersSweepLaw_if hs fun _ => .ite (fun _ => (link_core s _).sweepLaw hs) fun _ =>
    .ite (fun _ => (sendPoll_core s).sweepLaw hs) fun _ => hs

theorem execLapseRequest_sweepLaw (hr : ReservedLaw s) (hs : SweepLaw s) :
    AnswersSweepLaw (execLapseRequest s) := by
  refine ⟨_, rfl, ?_⟩
  split
  · exact .ite (fun _ => grantedPart_keepsSweep _ _ _ s hr hs) fun _ => hs
  · exact hs
  · exact hs

theorem execLinkRaise_sweepLaw (hr : ReservedLaw s) (hs : SweepLaw s) :
    AnswersSweepLaw (execLinkRaise s) := by
  refine ⟨_, rfl, ?_⟩
  split
  · exact .ite (fun _ => grantedPart_keepsSweep _ _ _ s hr hs) fun _ => hs
  · exact hs
  · exact hs

theorem execColdReset_sweepLaw (cause : ResetCause) (hs : SweepLaw s) :
    AnswersSweepLaw (execColdReset cause s) := by
  cases cause with
  | resetn => exact ⟨_, rfl, sampleInputs_sweepLaw hs true s.poweringUp s.clkPresent _⟩
  | powerUp => exact ⟨_, rfl, sweepLaw_reset⟩

theorem exec_sweepLaw (i : Instr) (hr : ReservedLaw s) (hs : SweepLaw s) :
    AnswersSweepLaw (exec i s) := by
  cases i with
  | topoBegin => exact answersSweepLaw_of_command _ (fun _ _ h => h) hr hs
  | topoPut => exact answersSweepLaw_of_command _ (fun _ _ h => h) hr hs
  | topoCommit engine => exact answersSweepLaw_of_request _ engine workTopoCommit_keepsSweep hr hs
  | commitComplete => exact answersSweepLaw_if hs fun _ => hs
  | groupSet => exact answersSweepLaw_of_command _ workGroupSet_keepsSweep hr hs
  | setLimits engine => exact answersSweepLaw_of_request _ engine workSetLimits_keepsSweep hr hs
  | setStamp => exact answersSweepLaw_of_command _ workSetStamp_keepsSweep hr hs
  | setMode => exact answersSweepLaw_of_command _ workSetMode_keepsSweep hr hs
  | grant => exact answersSweepLaw_of_command _ workGrant_keepsSweep hr hs
  | lookup engine => exact answersSweepLaw_of_request _ engine workLookup_keepsSweep hr hs
  | get engine => exact answersSweepLaw_of_request _ engine workGet_keepsSweep hr hs
  | listOpen engine => exact answersSweepLaw_of_request _ engine workListOpen_keepsSweep hr hs
  | listNext engine => exact answersSweepLaw_of_request _ engine workListNext_keepsSweep hr hs
  | listClose engine => exact answersSweepLaw_of_request _ engine workListClose_keepsSweep hr hs
  | agentInfo => exact answersSweepLaw_of_command _ workAgentInfo_keepsSweep hr hs
  | ack engine => exact answersSweepLaw_of_request _ engine workAck_keepsSweep hr hs
  | ackAll engine => exact answersSweepLaw_of_request _ engine workAckAll_keepsSweep hr hs
  | clearDomain => exact answersSweepLaw_of_command _ workClearDomain_keepsSweep hr hs
  | sweepStart =>
    exact answersSweepLaw_if hs fun _ =>
      grantedWork_keepsSweep workSweepStart_keepsSweep s hr hs
  | sweepStep => exact execSweepStep_sweepLaw hs
  | clearSummary => exact answersSweepLaw_of_command _ (fun _ _ h => h) hr hs
  | raiseApp engine => exact answersSweepLaw_of_request _ engine workRaiseApp_keepsSweep hr hs
  | restoreApp engine => exact answersSweepLaw_of_request _ engine workRestoreApp_keepsSweep hr hs
  | warmRestart engine =>
    exact answersSweepLaw_of_request _ engine workWarmRestart_keepsSweep hr hs
  | warmRestartComplete part => exact execWarmRestartComplete_sweepLaw part hs
  | badCommand code =>
    exact ⟨_, rfl, .ite (fun _ => hs) fun _ =>
      giveCommand_keepsSweep code (fun _ _ h => h.complete _ _) s hr hs⟩
  | overrun =>
    exact answersSweepLaw_if hs fun _ => giveCommand_keepsSweep 0x00 (fun _ _ h => h) s hr hs
  | attnCauseWrite value => exact answersSweepLaw_of_core (writeByte_core _ value s) hs
  | attnEnableWrite value => exact answersSweepLaw_of_core (writeByte_core _ value s) hs
  | argWrite address value => exact answersSweepLaw_of_core (writeByte_core address value s) hs
  | stampLatch => exact answersSweepLaw_if hs fun _ => (latchStamp_core s).sweepLaw hs
  | coldReset cause => exact execColdReset_sweepLaw cause hs
  | resetRelease => exact ⟨_, rfl, sampleInputs_sweepLaw hs false false s.clkPresent s.port⟩
  | stampTick => exact answersSweepLaw_if hs fun _ => (tick_core s).sweepLaw hs
  | verifyExpiry => exact answersSweepLaw_if hs fun _ => (expire_core s).sweepLaw hs
  | verifyExpiryRequest =>
    exact answersSweepLaw_if hs fun _ => workVerifyExpiry_keepsSweep
      { granted .verify s with topo.verify.waiting := false } hr (hs.granted .verify)
  | roundStart =>
    exact answersSweepLaw_if hs fun _ =>
      ((link_core s _).trans (comeToNext_core _)).sweepLaw hs
  | poll => exact execPoll_sweepLaw hs
  | replyWindowClose => exact execReplyWindowClose_sweepLaw hs
  | replyJudge stop bytes => exact execReplyJudge_sweepLaw stop bytes hs
  | reportRaise =>
    exact answersSweepLaw_of_report 1 raiseRefusal (fun _ w => Work.raise_changes w _) hr hs
  | reportRestore =>
    exact answersSweepLaw_of_report 2 restoreRefusal
      (fun _ w _ => Work.changes_of_eases (Work.restore_eases w _)) hr hs
  | reportArrive =>
    exact answersSweepLaw_of_report 3 arriveRefusal (fun r w => w.reportArrive_changes r) hr hs
  | reportDepart =>
    exact answersSweepLaw_of_report 4 departRefusal (fun r w => w.reportDepart_changes r) hr hs
  | lapseRequest => exact execLapseRequest_sweepLaw hr hs
  | linkRaise => exact execLinkRaise_sweepLaw hr hs
  | windowRequestGrant =>
    exact answersSweepLaw_if hs fun _ =>
      grantedWork_keepsSweep (windowWork_keepsSweep s.window.cmd) s hr hs
  | clkAbsent => exact answersSweepLaw_of_core (inputs_core s _ _ false s.port) hs
  | clkResumed => exact ⟨_, rfl, sampleInputs_sweepLaw hs s.resetnLow s.poweringUp true s.port⟩

end

/-- Settles O57: no work of a request sets a mark, the start of a sweep marks entries that are not
latching, and each step retires the marked entries that it passes. -/
theorem sweepLawKept : Obligations.SweepLawKept := by
  unfold Obligations.SweepLawKept
  intro s t hr hs h
  unfold step at h
  split at h
  · cases h
    exact hs
  · next c rest _ =>
    obtain ⟨u, hu, law⟩ := exec_sweepLaw c (s := s.withPending rest) hr hs
    rw [hu] at h
    cases h
    exact law

end Sys2Proof.Machine

/-!
COLD_RESET, RESET_RELEASE and the clock input (R186, R188, R203; log entry 7).
-/

namespace Sys2Proof.Machine

/-- A transaction that is cut off stays so. -/
theorem Port.inColdReset_inColdReset (p : Port) : p.inColdReset.inColdReset = p.inColdReset := by
  unfold Port.inColdReset
  split
  · rfl
  · rfl

/-- RESETN driven low, which cuts off a transaction at once (R188; log entry 7). -/
def State.resetFallen (s : State) : State :=
  { s with resetnLow := true, port := s.port.inColdReset }

theorem exec_coldReset_resetn (s : State) :
    exec (.coldReset .resetn) s = .next (sampleReset s.resetFallen) := rfl

/-- Cold reset cuts off the transaction that the fall of RESETN has cut off. -/
theorem coldReset_resetFallen (s : State) :
    coldReset s.resetFallen = { coldReset s with resetnLow := true } := by
  unfold coldReset State.resetFallen
  rw [Port.inColdReset_inColdReset]

/-- RESETN high and power-up ended (R186). -/
def State.resetRisen (s : State) : State := { s with resetnLow := false, poweringUp := false }

theorem exec_resetRelease (s : State) :
    exec .resetRelease s = .next (sampleReset s.resetRisen) := rfl

/-- The state with CLK back (R203). -/
def State.withClk (s : State) : State := { s with clkPresent := true }

theorem exec_clkResumed (s : State) : exec .clkResumed s = .next (sampleReset s.withClk) := rfl

/-- Settles O3: power-up holds the part itself, RESETN as CLK samples it. -/
theorem inputsOfThePart : Obligations.InputsOfThePart := by
  unfold Obligations.InputsOfThePart
  intro s
  rw [exec_resetRelease, exec_clkResumed]
  refine ⟨fun c seen => ?_, fun absent => ⟨?_, ?_⟩, fun present => ?_, rfl, fun high => ?_,
    fun low => ?_⟩
  · cases c with
    | powerUp => rfl
    | resetn =>
      have present : s.clkPresent = true := seen.resolve_left ResetCause.noConfusion
      rw [exec_coldReset_resetn, sampleReset_low s.resetFallen present rfl, coldReset_resetFallen]
      rfl
  · rw [exec_coldReset_resetn, sampleReset_without_clk s.resetFallen absent]
    rfl
  · rw [sampleReset_without_clk s.resetRisen absent]
    rfl
  · rw [sampleReset_high s.resetRisen present rfl]
    rfl
  · rw [sampleReset_high s.withClk rfl high]
    show Host.Outcome.next (if s.poweringUp then s.withClk else _) = _
    split
    · rfl
    · rfl
  · rw [sampleReset_low s.withClk rfl low]
    unfold coldReset
    rw [show s.withClk.resetnLow = true from low]
    rfl

end Sys2Proof.Machine

/-!
CLEAR-SUMMARY (R180) and the end of WARM-RESTART (R185, R195).
-/

namespace Sys2Proof.Machine

/-! ## CLEAR-SUMMARY -/

/-- Two argument bytes as one word, the first of them above (R187). -/
theorem ofNat_num16 (hi lo : Byte) : BitVec.ofNat 16 (num16 hi lo) = hi ++ lo := by
  refine BitVec.eq_of_toNat_eq ?_
  rw [BitVec.toNat_ofNat, Nat.mod_eq_of_lt (num16_lt hi lo), BitVec.toNat_append,
    Nat.shiftLeft_eq, Nat.mul_comm, ← Nat.two_pow_add_eq_or_of_lt lo.isLt, Nat.mul_comm]
  rfl

theorem maskArgument_eq (w : Window) : maskArgument w = (w.argAt 0 ++ w.argAt 1 : BitVec 16) :=
  ofNat_num16 _ _

theorem exec_clearSummary (s : State) (h : s.takes) :
    exec .clearSummary s = .next (workClearSummary (s.taken 0x53)) :=
  congrArg Host.Outcome.next (giveCommand_takes 0x53 workClearSummary s h)

/-- Settles O30: the arguments taken are ARG as it stands, and the Summary Unit works them whole. -/
theorem clearSummaryClears : Obligations.ClearSummaryClears := by
  unfold Obligations.ClearSummaryClears
  rintro s _ takes rfl
  rw [exec_clearSummary s takes]
  unfold workClearSummary
  rw [maskArgument_eq]
  rfl

/-! ## The end of WARM-RESTART -/

theorem exec_restartClear (s : State) (response : List Byte) (live : s.live = true)
    (h : s.window.restart = some ⟨response, false⟩) :
    exec (.warmRestartComplete .clear) s = .next (clearCauses ⟨response, false⟩ s) := by
  show execWarmRestartComplete .clear s = _
  unfold execWarmRestartComplete
  rw [h, live]
  rfl

theorem exec_restartFinish (s : State) (r : Restart) (live : s.live = true)
    (h : s.window.restart = some r) :
    exec (.warmRestartComplete .finish) s = .next (finishRestart r s) := by
  show execWarmRestartComplete .finish s = _
  unfold execWarmRestartComplete
  rw [h, live]

/-- Settles O39: the completion clears the causes where the clear has not been taken, and sets DONE
beside those that were set after it. -/
theorem warmRestartCompletes : Obligations.WarmRestartCompletes := by
  unfold Obligations.WarmRestartCompletes
  intro s response live
  refine ⟨fun h => exec_restartClear s response live h, fun cleared h => ?_⟩
  rw [exec_restartFinish s _ live h]
  cases cleared with
  | false => rfl
  | true => rfl

end Sys2Proof.Machine

/-!
The SPI port (R186, R187, R188, R192): what SDO drives, what bits and bytes do between the edges of
CSN, and what its rise gives.
-/

namespace Sys2Proof.Machine

/-! ## Bits -/

/-- The bits of a number from place k on, from those above k and the bit at k. -/
theorem shiftRight_step (n k : Nat) : 2 * (n >>> (k + 1)) + (n.testBit k).toNat = n >>> k := by
  have split := Nat.bit_testBit_zero_shiftRight_one (n >>> k)
  rw [Nat.bit_val, Nat.testBit_shiftRight, ← Nat.shiftRight_add] at split
  exact split

/-- Eight bits, the most significant first, spell their byte (R188). -/
theorem ofMsbFirst_bits (b : Byte) : ofMsbFirst ([7, 6, 5, 4, 3, 2, 1, 0].map b.getLsbD) = b := by
  have above : b.toNat >>> 8 = 0 := by
    rw [Nat.shiftRight_eq_div_pow]
    exact Nat.div_eq_of_lt b.isLt
  have step (k : Nat) : 2 * (b.toNat >>> (k + 1)) + (b.getLsbD k).toNat = b.toNat >>> k :=
    shiftRight_step b.toNat k
  have spelled : ([7, 6, 5, 4, 3, 2, 1, 0].map b.getLsbD).foldl
      (fun n x => 2 * n + x.toNat) (b.toNat >>> 8) = b.toNat >>> 0 := by
    simp only [List.map, List.foldl, step]
  rw [above] at spelled
  unfold ofMsbFirst
  rw [spelled]
  exact (BitVec.ofNat_toNat 8 b).trans b.setWidth_eq

/-- Eight bits are a byte (R188). -/
theorem spiBits_byte (b : Byte) (rest : List Bool) (s : State) :
    spiBits ([7, 6, 5, 4, 3, 2, 1, 0].map b.getLsbD ++ rest) s
      = (s.sdo.bits ++ (spiBits rest (spiByte b s)).1, (spiBits rest (spiByte b s)).2) := by
  have spelled := ofMsbFirst_bits b
  simp only [List.map] at spelled
  simp only [List.map, List.cons_append, List.nil_append, spiBits, spelled]

/-- A byte cut short does nothing (R188). -/
theorem spiBits_short (bits : List Bool) (s : State) (h : bits.length < 8) :
    spiBits bits s = (s.sdo.bits.take bits.length, s) := by
  unfold spiBits
  split
  · simp only [List.length_cons] at h
    omega
  · rfl

/-! ## The port at rest, held or cut off -/

section
variable {s : State}

theorem spiByte_held (held : s.live = false) (b : Byte) : spiByte b s = s :=
  if_neg (by rw [held]; exact Bool.false_ne_true)

theorem sdo_held (held : s.live = false) : s.sdo = .highZ :=
  if_neg (by rw [held]; exact Bool.false_ne_true)

theorem spiByte_released (high : s.port = .released) (b : Byte) : spiByte b s = s := by
  unfold spiByte
  rw [high]
  exact ite_self s

theorem sdo_released (high : s.port = .released) : s.sdo = .highZ := by
  unfold State.sdo
  rw [high]
  exact ite_self _

theorem spiByte_cut (cut : s.port = .cut) (b : Byte) : spiByte b s = s := by
  unfold spiByte
  rw [cut]
  exact ite_self s

theorem spiFall_released (high : s.port = .released) :
    spiFall s = { s with port := if s.live then .header else .cut } := if_pos high

/-! ## The port at work -/

theorem sdo_header (live : s.live = true) (header : s.port = .header) : s.sdo = .drives 0 := by
  unfold State.sdo
  rw [if_pos live, header]

theorem sdo_writing (live : s.live = true) {a : BitVec 7} {code : Option Byte}
    (writing : s.port = .writing a code) : s.sdo = .drives 0 := by
  unfold State.sdo
  rw [if_pos live, writing]

theorem sdo_reading (live : s.live = true) {a : BitVec 7} (reading : s.port = .reading a) :
    s.sdo = .drives (readAt a s).1 := by
  unfold State.sdo
  rw [if_pos live, reading]

/-- Bit 7 of a header is the direction, the rest the first address (R188). -/
theorem afterHeader_eq (b : Byte) : Port.afterHeader b
    = if b.toNat < 128 then .writing (BitVec.ofNat 7 b.toNat) none
      else .reading (BitVec.ofNat 7 (b.toNat - 128)) := by
  have bound := b.isLt
  unfold Port.afterHeader
  rw [BitVec.msb_eq_decide]
  by_cases write : b.toNat < 128
  · rw [if_pos write, if_neg (by simpa using write), BitVec.ofNat_toNat]
  · have address : b.setWidth 7 = BitVec.ofNat 7 (b.toNat - 128) := by
      refine BitVec.eq_of_toNat_eq ?_
      rw [BitVec.toNat_setWidth, BitVec.toNat_ofNat]
      omega
    rw [if_neg write, if_pos (by simpa using write), address]

theorem spiByte_header (live : s.live = true) (header : s.port = .header) (b : Byte) :
    spiByte b s = { s with port := Port.afterHeader b } := by
  unfold spiByte
  rw [if_pos live, header]

theorem spiByte_reading (live : s.live = true) {a : BitVec 7} (reading : s.port = .reading a)
    (b : Byte) : spiByte b s = { (readAt a s).2 with port := .reading (a + 1) } := by
  unfold spiByte
  rw [if_pos live, reading]

theorem spiByte_writing (live : s.live = true) {a : BitVec 7} {code : Option Byte}
    (writing : s.port = .writing a code) (b : Byte) : spiByte b s
      = if a = 0x00 then { s with port := .writing (a + 1) (some b) }
        else { writeAt a b s with port := .writing (a + 1) code } := by
  unfold spiByte
  rw [if_pos live, writing]

/-! ## The table's rows among the bytes -/

/-- The row of a byte within a write transaction does what the byte does (R188; log entry 17). -/
theorem writeByte_next (live : s.live = true) {a : BitVec 7} {code : Option Byte}
    (writing : s.port = .writing a code) (other : a ≠ 0x00) (b : Byte) :
    writeByte a ⟨b, .next⟩ s = spiByte b s := by
  rw [spiByte_writing live writing, if_neg other]
  unfold writeByte
  rw [if_pos live]
  show applyByte a b s = _
  unfold applyByte
  rw [writing]
  rfl

theorem spiByte_writing_port (live : s.live = true) {a : BitVec 7} {code : Option Byte}
    (writing : s.port = .writing a code) (b : Byte) :
    (spiByte b s).port = .writing (a + 1) (if a = 0x00 then some b else code) := by
  rw [spiByte_writing live writing]
  split
  · rfl
  · rfl

/-- The row of the read of 0x0C does what the read does (R190). -/
theorem exec_stampLatch_reading (live : s.live = true) {a : BitVec 7}
    (reading : s.port = .reading a) (stamp : a = 0x0C) :
    exec .stampLatch s = .next (readAt a s).2 := by
  subst stamp
  exact execStampLatch_uncut live (by rw [reading]; exact Port.noConfusion)

/-- What a row of a byte does to the port, by its place in its transaction (log entry 17). -/
theorem writeByte_port (live : s.live = true) (a : BitVec 7) (b : DataByte) :
    (b.csn = .only ∨ b.csn = .last → (writeByte a b s).port = .released)
      ∧ (b.csn = .first → ∃ next, (writeByte a b s).port = .writing next none)
      ∧ (b.csn = .next → s.port = .cut → writeByte a b s = s) := by
  obtain ⟨value, place⟩ := b
  unfold writeByte
  rw [if_pos live]
  refine ⟨?_, fun first => ?_, fun next cut => ?_⟩
  · rintro (only | last)
    · cases only
      rfl
    · cases last
      rfl
  · cases first
    exact ⟨a + 1, rfl⟩
  · cases next
    show applyByte a value s = s
    unfold applyByte
    rw [cut]
    rfl

end

/-! ## The rise of CSN -/

theorem spiRise_command (e : EngineAt) {s : State} {a : BitVec 7} {code : Byte}
    (writing : s.port = .writing a (some code)) : spiRise e s = exec (commandOf e code) s := by
  unfold spiRise
  rw [writing]
  rfl

theorem spiRise_none (e : EngineAt) {s : State}
    (unwritten : ∀ a code, s.port ≠ .writing a (some code)) : spiRise e s = .next (csnRise s) := by
  have no_code : s.port.code = none := by
    cases port : s.port with
    | writing a code =>
      cases code with
      | none => rfl
      | some code => exact absurd port (unwritten a code)
    | released | header | reading | cut => rfl
  unfold spiRise
  rw [no_code]

/-- Settles O8: by the port's own state, in a part that is live and in one that is held. -/
theorem spiTransactions : Obligations.SpiTransactions := by
  unfold Obligations.SpiTransactions
  refine ⟨fun s still => ?_, fun s bits => spiBits_short bits s, fun s b => (spiBits_byte b · s),
    fun v => rfl, rfl, fun s b cut => spiByte_cut cut b, fun s live => ⟨fun high => ?_,
      fun header => ⟨sdo_header live header, fun b => ?_⟩, fun a reading => ?_,
      fun a code writing => ⟨sdo_writing live writing, fun b => ?_⟩,
      fun e a code => spiRise_command e⟩,
    fun e s => spiRise_none e, fun s held high => ?_, fun i s _ cut command => ?_,
    fun s b i live row => ?_⟩
  · rcases or_assoc.mpr still with held | high
    · have held := live_false_of_held held
      exact ⟨sdo_held held, spiByte_held held⟩
    · exact ⟨sdo_released high, spiByte_released high⟩
  · rw [spiFall_released high, live]
    rfl
  · rw [spiByte_header live header, afterHeader_eq]
  · exact ⟨sdo_reading live reading, spiByte_reading live reading,
      exec_stampLatch_reading live reading⟩
  · refine ⟨fun cmd => ?_, fun cause => ?_, fun enable => ?_, fun row => ?_,
      spiByte_writing_port live writing b⟩
    · rw [spiByte_writing live writing, if_pos cmd, cmd]
      rfl
    · subst cause
      exact congrArg Host.Outcome.next (writeByte_next live writing (by decide) b)
    · subst enable
      exact congrArg Host.Outcome.next (writeByte_next live writing (by decide) b)
    · have other : a ≠ 0x00 := fun cmd => by subst cmd; cases row
      exact congrArg Host.Outcome.next (writeByte_next live writing other b)
  · rw [spiFall_released high, live_false_of_held held]
    rfl
  · obtain ⟨code, owner, given⟩ := exec_command command
    rw [given, giveCommand_dropped code owner s (.inr cut)]
    rfl
  · obtain ⟨a, written⟩ := exec_byte row
    exact ⟨_, written s, writeByte_port live a b⟩

end Sys2Proof.Machine

/-!
The command window's refusals and its codes: a CMD write while BUSY, the code that each command is
given by, and the codes that name none (R192, R193, R196, R197).
-/

namespace Sys2Proof.Machine

/-! ## While BUSY -/

/-- A CMD write while BUSY is refused whichever command it would give, OVERRUN's own row included
(R193; log entry 24). -/
theorem exec_command_busy {i : Instr} {s : State} (clocked : s.clocked = true)
    (uncut : s.port ≠ .cut) (busy : s.window.cmdState = .busy)
    (command : isCommand i = true ∨ i = .overrun) :
    exec i s = .next (refuseOverrun (csnRise s)) := by
  rcases command with command | rfl
  · obtain ⟨code, owner, given⟩ := exec_command command
    rw [given, giveCommand_busy code owner s clocked uncut busy]
  · refine congrArg Host.Outcome.next ((if_pos busy).trans ?_)
    exact giveCommand_busy _ _ s clocked uncut busy

/-- Settles O6: the refusal, at the rise of CSN that ends the transaction. -/
theorem busyRefusesCommands : Obligations.BusyRefusesCommands := by
  unfold Obligations.BusyRefusesCommands
  intro i s clocked uncut busy command
  rw [exec_command_busy clocked uncut busy command]
  rfl

/-! ## Codes -/

/-- BAD_COMMAND's codes are those outside the table of R197. -/
theorem badCommandOk_iff (code : Byte) :
    Instr.badCommandOk code = true ↔ code ∉ Config.commandCodes := by
  unfold Instr.badCommandOk
  rw [Bool.not_eq_true', ← Bool.not_eq_true, List.contains_iff_mem]

/-- A code outside the table of R197 gives BAD_COMMAND: each number that commandOf names is one of
the table. -/
theorem commandOf_undefined (e : EngineAt) {code : Byte} (undefined : code ∉ Config.commandCodes) :
    commandOf e code = .badCommand code := by
  have numbers : code.toNat ∉ Config.commandCodes.map BitVec.toNat :=
    mt (List.mem_map_of_injective BitVec.toNat_injective).mp undefined
  unfold commandOf
  split
  case h_22 => rfl
  all_goals
    next named =>
      rw [named] at numbers
      exact absurd (by decide) numbers

/-- A code outside the table of R197 is taken and completed by BAD_COMMAND (R196). -/
theorem exec_badCommand {code : Byte} {s : State} (takes : s.takes)
    (undefined : code ∉ Config.commandCodes) :
    exec (.badCommand code) s = .next (complete Result.badCommand [] (s.taken code)) := by
  have unlisted : ¬ Config.commandCodes.contains code = true :=
    mt List.contains_iff_mem.mp undefined
  refine congrArg Host.Outcome.next ((if_neg unlisted).trans ?_)
  exact giveCommand_takes code _ s takes

/-- Settles O10: codes outside the table by their completion, those of the table by evaluation. -/
theorem codesGiveCommands : Obligations.CodesGiveCommands := by
  unfold Obligations.CodesGiveCommands
  refine ⟨fun code s takes row => ?_, by decide, fun e => ⟨fun code row => ?_, rfl, fun code => ?_⟩⟩
  · rw [exec_badCommand takes ((badCommandOk_iff code).mp row), complete_taken]
    rfl
  · exact commandOf_undefined e ((badCommandOk_iff code).mp row)
  · rw [← Bool.not_eq_true, badCommandOk_iff, not_not]
    rfl

end Sys2Proof.Machine

/-!
SET-STAMP: its argument as a clock value, and the one expiry that comes before or with the load
(R65, R201).
-/

namespace Sys2Proof.Machine

/-! ## The argument -/

theorem num32_lt (a b c d : Byte) : num32 a b c d < 4294967296 := by
  unfold num32
  omega

/-- The four bytes of a number spell it (R187). -/
theorem be32_num32 (a b c d : Byte) : be32 (num32 a b c d) = [a, b, c, d] := by
  have first : byte (num32 a b c d / 16777216) = a := by unfold byte num32; bv_omega
  have second : byte (num32 a b c d / 65536) = b := by unfold byte num32; bv_omega
  have third : byte (num32 a b c d / 256) = c := by unfold byte num32; bv_omega
  have fourth : byte (num32 a b c d) = d := by unfold byte num32; bv_omega
  unfold be32
  rw [first, second, third, fourth]

/-- Four argument bytes as one word, the first of them highest (R187). -/
theorem ofNat_num32 (a b c d : Byte) : BitVec.ofNat 32 (num32 a b c d) = a ++ b ++ c ++ d := by
  have bytes := be32_num32 a b c d
  simp only [be32, List.cons.injEq, and_true] at bytes
  obtain ⟨first, second, third, fourth⟩ := bytes
  rw [← be32_spells, first, second, third, fourth]

theorem stampArgument_eq (w : Window) : stampArgument w
    = (w.argAt 0 ++ w.argAt 1 ++ w.argAt 2 ++ w.argAt 3 : BitVec 32) :=
  ofNat_num32 _ _ _ _

/-- The response of SET-STAMP is its argument (R201). -/
theorem be32_stampArgument (w : Window) :
    be32 (stampArgument w).toNat = (List.range 4).map w.argAt := by
  unfold stampArgument
  rw [BitVec.toNat_ofNat, Nat.mod_eq_of_lt (num32_lt _ _ _ _), be32_num32]
  rfl

/-! ## The load -/

/-- The clock loaded and the command completed, with no expiry made (R201). -/
def State.stampLoaded (u : State) : State :=
  complete Result.ok (be32 (stampArgument u.window).toNat)
    { u with clock := stampArgument u.window }

theorem stampLoaded_taken (s : State) : (s.taken 0x24).stampLoaded
    = { s.completed 0x24 0x00 ((List.range 4).map s.arguments.argAt) with
        clock := (s.arguments.argAt 0 ++ s.arguments.argAt 1 ++ s.arguments.argAt 2
          ++ s.arguments.argAt 3 : BitVec 32) } := by
  rw [← stampArgument_eq, ← be32_stampArgument, ← complete_taken]
  rfl

/-- An expiry before a completion comes to the same as one after it: the causes add up (R150). -/
theorem complete_expire (result : Byte) (response : List Byte) (u : State) :
    complete result response (expire u) = expire (complete result response u) := by
  have causes : u.window.cause ||| Cause.verify ||| Cause.done
      = u.window.cause ||| Cause.done ||| Cause.verify := by
    rw [BitVec.or_assoc, BitVec.or_comm Cause.verify, ← BitVec.or_assoc]
  unfold expire complete setCause
  dsimp only
  rw [causes]

/-- An expiry before the load comes to the same as one after it (R65). -/
theorem stampLoaded_expire (u : State) : (expire u).stampLoaded = expire u.stampLoaded :=
  complete_expire _ _ { u with clock := stampArgument u.window }

theorem stampLoaded_stopped {u : State} (stopped : u.topo.verify.running = false) :
    u.stampLoaded.expiryDue = false := by
  show (u.topo.verify.running && _) = false
  rw [stopped, Bool.false_and]

/-- An expiry due before the load is made before it, and none is due after it (R65; log entry
30). -/
theorem workSetStamp_due {u : State} (due : u.expiryDue = true) :
    workSetStamp u = expire u.stampLoaded := by
  have made : expireIfDue u = expire u := if_pos due
  have worked : workSetStamp u = expireIfDue (expire u).stampLoaded := by
    unfold workSetStamp
    rw [made]
    rfl
  rw [worked, expireIfDue_of_notDue _ (stampLoaded_stopped rfl), stampLoaded_expire]

/-- Where none is due before the load, the load makes the expiry where it makes it due (R65; log
entry 8). -/
theorem workSetStamp_notDue {u : State} (not_due : u.expiryDue = false) :
    workSetStamp u = expireIfDue u.stampLoaded := by
  unfold workSetStamp
  rw [expireIfDue_of_notDue u not_due]
  rfl

theorem exec_setStamp (s : State) (h : s.takes) :
    exec .setStamp s = .next (workSetStamp (s.taken 0x24)) :=
  congrArg Host.Outcome.next (giveCommand_takes 0x24 workSetStamp s h)

/-- Settles O18: by whether an expiry is due before the load, and then by whether the load makes it
due. -/
theorem setStampLoadsClock : Obligations.SetStampLoadsClock := by
  unfold Obligations.SetStampLoadsClock
  intro s t takes loaded
  rw [← stampLoaded_taken] at loaded
  subst loaded
  rw [exec_setStamp s takes]
  refine ⟨fun before after => ?_, fun due => ?_⟩
  · rw [workSetStamp_notDue (u := s.taken 0x24) before, expireIfDue_of_notDue _ after]
  · have expired : workSetStamp (s.taken 0x24) = expire (s.taken 0x24).stampLoaded := by
      cases before : s.expiryDue with
      | true => exact workSetStamp_due (u := s.taken 0x24) before
      | false =>
        have after := due.resolve_left (by rw [before]; exact Bool.false_ne_true)
        exact (workSetStamp_notDue (u := s.taken 0x24) before).trans (if_pos after)
    rw [expired]
    rfl

end Sys2Proof.Machine

/-!
The queue of steps: with step_idle, the two equations of step (log entries 4 and 22).
-/

namespace Sys2Proof.Machine

/-- A step with the command c at the front of the queue is c worked on the queue's rest. -/
theorem step_front (c : Instr) (rest : List Instr) (s : State) (front : s.pending = c :: rest) :
    step s = exec c (s.withPending rest) := by
  unfold step
  rw [front]

/-- Settles O1: the queue's two shapes are the two equations of step. -/
theorem stepTakesFront : Obligations.StepTakesFront := by
  unfold Obligations.StepTakesFront
  exact ⟨step_front, step_idle⟩

end Sys2Proof.Machine
